-- ==== Sys2Proof/Word.lean ====
section
/-! DEFINITION. The value types of the engine: encrypted bits and words by their plaintext shadow, and plaintext words. -/

namespace Sys2Proof

/-- One EncryptedBit, represented by the bit `v(x)` it decrypts to (R13, R20; the spec's D1, log entry 1). -/
abbrev EBit := Bool

/-- One EncryptedWord: 32 encrypted bits (R6, R21). Index 0 of the spec's `w[0] .. w[31]` is the most significant bit,
so the numeral an `EWord` denotes is the spec's `val(w)` (R15). -/
abbrev EWord := BitVec 32

/-- A plaintext 32-bit number: a ROM constant, a STATUS word or a CMD32 word (R16). -/
abbrev Word32 := BitVec 32

/-- A byte of a message or of a digest, as the host sees it (R53). -/
abbrev Byte := BitVec 8

end Sys2Proof
end

