-- ==== Sys2Proof/Syntax.lean ====
section
/-! DEFINITION. The instruction set as syntax: one constructor per row of the opcode table, and the gate requests a circuit makes. -/

namespace Sys2Proof

/-- The 25 encodings of 30_encoding.md. An operand that the encoding holds is an argument; an operand on a lane
(DATA, the slots A, B, C, the sources S1, S2, S3 and KC) is no part of the instruction (R72, R80, R87). -/
inductive Instr
  -- CMD32, the host commands (R73)
  | init
  | load (idx : BitVec 4)
  | absorb
  | read (idx : BitVec 4)
  | status
  | abort
  -- GATE8, the gate requests (R81)
  | and
  | or
  | xor
  | not
  | mux
  | triv (kb : Bool)
  | xork (kb : Bool)
  -- UOP16, the word micro-operations (R86)
  | add32
  | addk32
  | xor32
  | rotr (n : BitVec 5)
  | shr (n : BitVec 5)
  | ch32
  | maj32
  | bsig0
  | bsig1
  | ssig0
  | ssig1
  | triv32
  deriving DecidableEq, Repr

/-- One gate request as a circuit records it: the opcode and the public bit of its GATE8 byte (R80, R81). -/
inductive Gate
  | and
  | or
  | xor
  | not
  | mux
  | triv (kb : Bool)
  | xork (kb : Bool)
  deriving DecidableEq, Repr, Inhabited

/-- The instruction a recorded gate request is. -/
def Gate.toInstr : Gate → Instr
  | .and => .and
  | .or => .or
  | .xor => .xor
  | .not => .not
  | .mux => .mux
  | .triv k => .triv k
  | .xork k => .xork k

end Sys2Proof
end

