-- ==== Sys2Proof/Config.lean ====
section
/-! DEFINITION. What an implementation fixes (R6 to R12), and the values the spec leaves free. -/

namespace Sys2Proof

/-- R7: which adder realization is built. Every one has the value of R131. -/
inductive AdderVariant
  | ripple
  | lookahead
  deriving DecidableEq, Repr

/-- R9 and R138: which gates realize the bitwise majority: the reference `AND_OR`, the spec's own example
`MUX(XOR(a, b), c, a)`, or any other with the same truth table. -/
inductive MajRealization
  | andOr
  | muxXor
  | other
  deriving DecidableEq, Repr

/-- The parameters R7, R8, R9 and R12. EVALUATOR (R11) is `State.draws`; EVAL_ORDER (R10) has no effect on state (R62). -/
structure Params where
  /-- R7. -/
  adder : AdderVariant
  /-- R8: MUX is one gate request, or NOT, AND, AND, OR. -/
  muxFused : Bool
  /-- R9. -/
  maj : MajRealization
  /-- R12: the server key handle SK, opaque to the engine. -/
  sk : Nat
  deriving DecidableEq, Repr

/-- The controller's phase (R28). -/
inductive Phase
  | sched
  | round
  | ff
  deriving DecidableEq, Repr, Inhabited

/-! ### The Gate Adapter boundary's operands -/

/-- R80: the operand slots A, B, C of a gate request; each holds one ciphertext, or nothing. -/
structure Slots where
  a : Option EBit
  b : Option EBit
  c : Option EBit
  deriving DecidableEq, Repr

/-! ### Free values: constants without a body -/

/-- U10, R37, R232, R233: PHASE where the spec calls it unspecified, one value for each use (DESIGN CHOICE, log entry 4). -/
opaque Config.unspecPhase : Nat → Phase

/-- U10, R37, R232, R233: T where the spec calls it unspecified, one value for each use (DESIGN CHOICE, log entry 4). -/
opaque Config.unspecT : Nat → Fin 64

/-- R80: the result of a request one of whose used slots holds nothing, which the spec does not state (DESIGN CHOICE, log entry
21). R111: it depends on nothing but the gate and its slots. -/
opaque Config.missingOperand : Gate → Slots → EBit

/-- R132: a lookahead adder's requests are open; it makes at least one (DEDUCED, log entry 8). -/
opaque Config.lookaheadFirst : Gate

/-- R132: a lookahead adder's other requests (DEDUCED, log entry 8). -/
opaque Config.lookaheadRest : List Gate

/-- R132: the operands of a lookahead adder's requests, by their places (DEDUCED, log entry 8). -/
opaque Config.lookaheadOperands : EWord → EWord → Nat → EBit × EBit × EBit

/-- R138: the requests of another majority realization at one position are open; it makes at least one (DEDUCED, log entry 8). -/
opaque Config.otherMajFirst : Gate

/-- R138: the other requests of another majority realization at one position (DEDUCED, log entry 8). -/
opaque Config.otherMajRest : List Gate

/-- R138: the operands of another majority realization's requests, by their places (DEDUCED, log entry 8). -/
opaque Config.otherMajOperands : EBit → EBit → EBit → Nat → EBit × EBit × EBit

end Sys2Proof
end

