-- ==== Sys2Proof/Machine/State.lean ====
section
/-! DEFINITION. The machine's state as plain data, what can stop a step, and the state after reset. -/

namespace Sys2Proof.Machine

/-- ST, the engine's mode (R28). -/
inductive Mode
  | idle
  | busy
  | halted
  deriving DecidableEq, Repr

/-- The codes of R230; 7 to 15 are never produced, so they have no constructor. -/
inductive Code
  | none
  | malformedInput
  | keyMismatch
  | evaluationFailure
  | illegalCommand
  | protocol
  | aborted
  deriving DecidableEq, Repr

/-- The two kinds of failure a gate request can return (R100). -/
inductive FailKind
  | evaluationFailure
  | keyMismatch
  deriving DecidableEq, Repr

/-- One answer of the EVALUATOR oracle (R11, R239). -/
inductive Draw
  | success
  | fail (kind : FailKind)
  deriving DecidableEq, Repr

/-- The PAYLOAD lane of a response (R72). -/
inductive Payload
  | empty
  | word (w : EWord)
  | status (w : Word32)
  deriving DecidableEq, Repr

/-- A command's response `(RC, PAYLOAD)` (R72). -/
structure Response where
  rc : Code
  payload : Payload
  deriving DecidableEq, Repr

/-- The operand lanes of a word micro-operation: the word sources S1, S2, S3 and the plaintext constant KC (R86). -/
structure Operands where
  s1 : EWord
  s2 : EWord
  s3 : EWord
  kc : Word32
  deriving DecidableEq, Repr

/-- What a gate request returns (R82, R100). -/
inductive GateResult
  | ok (x : EBit)
  | fail (kind : FailKind)
  deriving DecidableEq, Repr

/-- What may happen next at one of the machine's boundaries (R60, R70, R209): a host command with its DATA lane, a
micro-operation with its operands, a gate request with its operands, or the controller's turn. -/
inductive Event
  | command (w : BitVec 32) (data : List EBit)
  | wordOp (w : BitVec 16) (operands : Operands)
  | gateRequest (b : BitVec 8) (slots : Slots)
  | microStep
  deriving DecidableEq, Repr

/-- The register files that can be unwritten (R25, R32, R201). -/
inductive Store
  | H
  | V
  | W
  | M
  deriving DecidableEq, Repr

/-- Why the machine stops with a model fault. A correct engine never gets to one (R32, U11, U12, R176). -/
inductive Fault
  /-- Raised by READ, ABSORB and a micro-step that reads a word holding no value (U11, U12). Safe: the spec's own treatment. -/
  | unwritten (r : Store)
  /-- Raised by a micro-step at a `(PHASE, T)` that R176's table lacks, or whose sequence does not fit it. Safe: unreachable. -/
  | noSuchMicroStep
  deriving DecidableEq, Repr

/-- Why a step refuses. -/
inductive Refusal
  /-- Raised by exec for an instruction without a meaning; no arm of exec raises it. Safe. -/
  | notModelled (mnemonic : String)
  /-- Raised by the Gate Adapter boundary for a reserved GATE8 byte, which the engine never issues (R83). Safe. -/
  | reservedGate (b : BitVec 8)
  /-- Raised by the word datapath for a reserved UOP16 word, which the sequence never contains (R88). Safe. -/
  | reservedWordOp (w : BitVec 16)
  deriving DecidableEq, Repr

/-- The machine's state. `none` stands for the spec's own "unwritten" (R25, R32, R37, R201), never for a missing reset value. -/
structure State where
  /-- H[0..7], the chaining registers; all 8 words are written, or unwritten, together (R22, R58, R201). -/
  H : Option (Vector EWord 8)
  /-- V[0..7] = a..h, the working variables; written together, unwritten outside a block (R23, R32). -/
  V : Option (Vector EWord 8)
  /-- W[0..63], the message schedule, word by word (R24, R32). -/
  W : Vector (Option EWord) 64
  /-- M[0..15], the block buffer (R25). -/
  M : Vector (Option EWord) 16
  /-- LDMASK[15:0] (R25). -/
  LDMASK : BitVec 16
  /-- ST (R28). -/
  ST : Mode
  /-- PHASE (R28). -/
  PHASE : Phase
  /-- T, 0 to 63 (R28). -/
  T : Fin 64
  /-- STATUS.ERR (R29, R30). -/
  ERR : Code
  /-- The DATA lane of the command being accepted, 32 bits in index order when well formed (R72, R21). -/
  data : List EBit
  /-- The response lane: the last command's response, `none` before the first (R72). -/
  response : Option Response
  /-- The operand lanes of the word datapath (R86). -/
  operands : Operands
  /-- D, the word datapath's result; `none` when the last operator produced none (R86, R130). -/
  D : Option EWord
  /-- The operand slots of the Gate Adapter boundary (R80). -/
  slots : Slots
  /-- The last gate request's result, `none` before the first (R82). -/
  gateResult : Option GateResult
  /-- The implementation's parameters, which no step writes (R35; DESIGN CHOICE, log entry 7). -/
  params : Params
  /-- The model's input: what happens next, oldest first (R60, R209; DESIGN CHOICE, log entry 2). -/
  pending : List Event
  /-- The model's input: the EVALUATOR oracle's next answers (R11; DESIGN CHOICE, log entry 3). -/
  draws : List Draw
  /-- The model's counter of free values used (DESIGN CHOICE, log entry 4). -/
  unspec : Nat
  deriving DecidableEq, Repr

/-- R37, R260: the state after reset. PHASE, T, the lanes, the parameters and the inputs have no reset value in the spec:
log entries 2, 3, 4, 5 and 7 name these (DESIGN CHOICE). -/
def State.reset : State where
  H := some ivRom
  V := none
  W := Vector.replicate 64 none
  M := Vector.replicate 16 none
  LDMASK := 0
  ST := .idle
  PHASE := .sched
  T := 0
  ERR := .none
  data := List.replicate 32 false
  response := none
  operands := ⟨0, 0, 0, 0⟩
  D := none
  slots := ⟨none, none, none⟩
  gateResult := none
  params := ⟨.ripple, true, .andOr, 0⟩
  pending := []
  draws := []
  unspec := 0

end Sys2Proof.Machine
end

