-- ==== Sys2Proof/Machine/Flags.lean ====
section
/-! DEFINITION. The STATUS word and the numbers of its fields. The engine has no flags (R34): these are its only status bits. -/

namespace Sys2Proof.Machine

/-- R29: STATE, bits [1:0]; 3 is never produced. -/
def Mode.number : Mode → BitVec 2
  | .idle => 0
  | .busy => 1
  | .halted => 2

/-- R230: the 4-bit number of a code. -/
def Code.number : Code → BitVec 4
  | .none => 0
  | .malformedInput => 1
  | .keyMismatch => 2
  | .evaluationFailure => 3
  | .illegalCommand => 4
  | .protocol => 5
  | .aborted => 6

/-- R201: `code(kind)`. -/
def FailKind.code : FailKind → Code
  | .evaluationFailure => .evaluationFailure
  | .keyMismatch => .keyMismatch

/-- R31: FULL is computed, not stored. -/
def fullFlag (s : State) : Bool := s.LDMASK == 0xFFFF

/-- R205: `STATE | ERR << 4 | FULL << 8 | LDMASK << 16`, reserved bits 0 (R29). -/
def statusWord (s : State) : Word32 :=
  (s.ST.number.zeroExtend 32) ||| (s.ERR.number.zeroExtend 32 <<< 4) |||
    ((BitVec.ofBool (fullFlag s)).zeroExtend 32 <<< 8) ||| (s.LDMASK.zeroExtend 32 <<< 16)

end Sys2Proof.Machine
end

