-- ==== Sys2Proof/Machine/Circuit.lean ====
section
/-! DEFINITION. Boolean circuits over the Gate Adapter: the value a circuit yields and the gate requests it makes. -/

namespace Sys2Proof.Machine

/-- R101, R113: the boolean function of a successful gate request, on the slots A, B, C. -/
def gateValue (g : Gate) (a b c : EBit) : EBit :=
  match g with
  | .and => a && b
  | .or => a || b
  | .xor => a ^^ b
  | .not => !a
  | .mux => if a then b else c
  | .triv k => k
  | .xork k => a ^^ k

/-- Slots that hold nothing (R80). -/
def noSlots : Slots := ⟨none, none, none⟩

/-- R81: the slots a gate uses; what stands in the others goes with no request. -/
def usedSlots (g : Gate) (s : Slots) : Slots :=
  match g with
  | .and => ⟨s.a, s.b, none⟩
  | .or => ⟨s.a, s.b, none⟩
  | .xor => ⟨s.a, s.b, none⟩
  | .not => ⟨s.a, none, none⟩
  | .mux => s
  | .triv _ => noSlots
  | .xork _ => ⟨s.a, none, none⟩

/-- One gate request as it goes to the evaluator: the gate and public bit of its GATE8 byte, its operand slots, and the server
key handle, which goes with every request (R12, R80, R82). -/
structure Request where
  gate : Gate
  slots : Slots
  key : Nat
  deriving DecidableEq, Repr

/-- R81: every slot the gate uses holds a ciphertext. -/
def slotsFilled (g : Gate) (s : Slots) : Bool :=
  match g with
  | .and => s.a.isSome && s.b.isSome
  | .or => s.a.isSome && s.b.isSome
  | .xor => s.a.isSome && s.b.isSome
  | .not => s.a.isSome
  | .mux => s.a.isSome && s.b.isSome && s.c.isSome
  | .triv _ => true
  | .xork _ => s.a.isSome

/-- The value of a successful request: its boolean function (R101), or a free value where a slot it uses holds nothing, of which
the spec says no result (DESIGN CHOICE, log entry 21). -/
def gateResult (g : Gate) (s : Slots) : EBit :=
  if slotsFilled g s then gateValue g (s.a.getD false) (s.b.getD false) (s.c.getD false)
  else Config.missingOperand g (usedSlots g s)

/-- A circuit: its result when every request succeeds, and its requests in the reference order (R62: any order
consistent with the data has the same values). -/
structure Circuit (α : Type) where
  out : α
  reqs : List Request
  deriving DecidableEq, Repr

/-- Wiring only: no gate request. -/
def wire {α : Type} (x : α) : Circuit α := ⟨x, []⟩

/-- One gate request (R82), with the slots its gate uses and the server key SK (R12). -/
def sendRequest (p : Params) (g : Gate) (s : Slots) : Circuit EBit := ⟨gateResult g s, [⟨g, usedSlots g s, p.sk⟩]⟩

/-- A gate request on given bits; a bit the gate does not use goes with no request. -/
def request (p : Params) (g : Gate) (a b c : EBit) : Circuit EBit := sendRequest p g ⟨some a, some b, some c⟩

/-- A circuit fed with another's result. -/
def feed {α β : Type} (x : Circuit α) (f : α → Circuit β) : Circuit β :=
  ⟨(f x.out).out, x.reqs ++ (f x.out).reqs⟩

/-- The requests a circuit makes, counted for one gate. -/
def countOf {α : Type} (x : Circuit α) (g : Gate) : Nat := x.reqs.countP fun r => r.gate == g

/-- R102: AND, OR, XOR and MUX are interactive; NOT, TRIV and XORK are not. -/
def isInteractive : Gate → Bool
  | .and => true
  | .or => true
  | .xor => true
  | .not => false
  | .mux => true
  | .triv _ => false
  | .xork _ => false

/-- R272: how many interactive requests a circuit makes. -/
def interactiveCount {α : Type} (x : Circuit α) : Nat := x.reqs.countP fun r => isInteractive r.gate

/-- Whether a circuit makes a request, so that it can fail (R103, R135, R136). -/
def makesRequest {α : Type} (x : Circuit α) : Bool := !x.reqs.isEmpty

/-- R108: MUX on its slots, fused into one request, or NOT, AND, AND, OR. -/
def muxSlots (p : Params) (s : Slots) : Circuit EBit :=
  if p.muxFused then sendRequest p .mux s
  else
    feed (sendRequest p .not s) fun n =>
    feed (sendRequest p .and s) fun u =>
    feed (sendRequest p .and ⟨some n, s.c, none⟩) fun v =>
    sendRequest p .or ⟨some u, some v, none⟩

/-- R108: MUX of three bits. -/
def muxCircuit (p : Params) (sel x y : EBit) : Circuit EBit := muxSlots p ⟨some sel, some x, some y⟩

/-- A gate on its slots; an unfused MUX is never one request (R81). -/
def gateCircuit (p : Params) (g : Gate) (s : Slots) : Circuit EBit :=
  match g with
  | .and => sendRequest p .and s
  | .or => sendRequest p .or s
  | .xor => sendRequest p .xor s
  | .not => sendRequest p .not s
  | .mux => muxSlots p s
  | .triv k => sendRequest p (.triv k) s
  | .xork k => sendRequest p (.xork k) s

/-- The requests of an open netlist: its gates in order, from place `j` on, each on the operands of its place (R132, R138). -/
def openRequests (p : Params) (operands : Nat → EBit × EBit × EBit) : Nat → List Gate → List Request
  | _, [] => []
  | j, g :: gs =>
    (gateCircuit p g ⟨some (operands j).1, some (operands j).2.1, some (operands j).2.2⟩).reqs ++
      openRequests p operands (j + 1) gs

/-- The truth table of R138, for a realization whose gates are open. -/
def majValue (a b c : EBit) : EBit := (a && b) || (b && c) || (a && c)

/-- R138: the majority of three bits in the chosen realization. -/
def majCircuit (p : Params) (a b c : EBit) : Circuit EBit :=
  match p.maj with
  | .andOr =>
    feed (request p .and a b false) fun ab =>
    feed (request p .and b c false) fun bc =>
    feed (request p .or ab bc false) fun u =>
    feed (request p .and a c false) fun ac =>
    request p .or u ac false
  | .muxXor => feed (request p .xor a b false) fun x => muxCircuit p x c a
  | .other => ⟨majValue a b c, openRequests p (Config.otherMajOperands a b c) 0 (Config.otherMajFirst :: Config.otherMajRest)⟩

end Sys2Proof.Machine
end

