-- ==== Sys2Proof/Machine/Operands.lean ====
section
/-! DEFINITION. Bit and byte order, and every read of an operand: bits of a word, the register files, the DATA lane. -/

namespace Sys2Proof.Machine

/-! ### Bit order (R15, R52, R53) -/

/-- R15: `w[i]`, index 0 the most significant bit. -/
def bitAt (w : EWord) (i : Nat) : EBit := w.getMsbD i

/-- R15: `w{p}`, the bit of weight `2^p`. -/
def weightAt (w : EWord) (p : Nat) : EBit := w.getLsbD p

/-- `w` with its bit of weight `2^p`, 0 so far, set to `x`. -/
def setWeight (w : EWord) (p : Nat) (x : EBit) : EWord := w ||| ((BitVec.ofBool x).zeroExtend 32 <<< p)

/-- R52: the word whose bits `[0], [1], ...` are the list, first bit most significant. -/
def wordOfBits (bs : List EBit) : EWord := bs.foldl BitVec.shiftConcat 0

/-- R52: the 32 bits of a word in index order. -/
def bitsOfWord (w : EWord) : List EBit := (List.range 32).map (bitAt w)

/-- R53: byte `q` of a word is its bits `[8q] .. [8q+7]`. -/
def byteOfWord (w : EWord) (q : Nat) : Byte :=
  ((List.range 8).map fun k => bitAt w (8 * q + k)).foldl BitVec.shiftConcat 0

/-! ### Register files -/

/-- R24, R32: `W[i]`, if it holds a value. -/
def readW (s : State) (i : Nat) : Option EWord := if h : i < 64 then s.W[i] else none

/-- R25: `M[i]`, which holds a value only where `LDMASK[i]` is 1. -/
def readM (s : State) (i : Nat) : Option EWord :=
  if h : i < 16 then if s.LDMASK.getLsbD i then s.M[i] else none else none

/-- R25, R203: every word of the block buffer holds a value. -/
def blockReadable (s : State) : Bool := (List.range 16).all fun i => (readM s i).isSome

/-- R171: `W` after the capture's copies `W[t] <- M[t]`, t = 0..15. -/
def capturedW (s : State) : Vector (Option EWord) 64 :=
  Vector.ofFn fun i => if i.val < 16 then readM s i.val else s.W[i]

/-- R32, R201: a file with no word written. -/
def unwrittenFile (n : Nat) : Vector (Option EWord) n := Vector.replicate n none

/-! ### Outcomes in sequence -/

/-- Go on with what a computation answers; a fault or a refusal ends it. -/
def andThen {α β : Type} (o : Host.Outcome α Fault Refusal) (f : α → Host.Outcome β Fault Refusal) :
    Host.Outcome β Fault Refusal :=
  match o with
  | .next a => f a
  | .fault r => .fault r
  | .refused r => .refused r

/-- Reading a word of file `r` that holds no value is a model fault (R32, U11, U12). -/
def written {α : Type} (r : Store) : Option α → Host.Outcome α Fault Refusal
  | some x => .next x
  | none => .fault (.unwritten r)

end Sys2Proof.Machine
end

