-- ==== Sys2Proof/Machine/WordOps.lean ====
section
/-! DEFINITION. The word operators as circuits of gates: the Arithmetic Circuit Builder (41_word_ops.md). -/

namespace Sys2Proof.Machine

/-- The word whose bits `[0] .. [n-1]` are the results of `f 0 .. f (n-1)`, made in index order. -/
def gatherBits (f : Nat → Circuit EBit) : Nat → Circuit EWord
  | 0 => wire 0
  | n + 1 => feed (gatherBits f n) fun w => feed (f n) fun x => wire (w.shiftConcat x)

/-- R130: a bitwise operator, one circuit at each of the 32 positions. -/
def eachBit (f : Nat → Circuit EBit) : Circuit EWord := gatherBits f 32

/-! ### Addition -/

/-- R132, RIPPLE: the sum bits of weights 0..n, and the carry into weight n+1 (none is made out of weight 31). -/
def rippleTo (p : Params) (a b : EWord) : Nat → Circuit (EWord × EBit)
  | 0 =>
    feed (request p .xor (weightAt a 0) (weightAt b 0) false) fun x0 =>
    feed (request p .and (weightAt a 0) (weightAt b 0) false) fun c =>
    wire (setWeight 0 0 x0, c)
  | n + 1 =>
    feed (rippleTo p a b n) fun sc =>
    feed (request p .xor (weightAt a (n + 1)) (weightAt b (n + 1)) false) fun x =>
    feed (request p .xor x sc.2 false) fun sum =>
    if n + 1 < 31 then
      feed (muxCircuit p x sc.2 (weightAt a (n + 1))) fun c => wire (setWeight sc.1 (n + 1) sum, c)
    else wire (setWeight sc.1 (n + 1) sum, false)

/-- R131, R132: ADD32. A lookahead adder has the value of R131 and open requests. -/
def addCircuit (p : Params) (a b : EWord) : Circuit EWord :=
  match p.adder with
  | .ripple => feed (rippleTo p a b 31) fun sc => wire sc.1
  | .lookahead => ⟨a + b, openRequests p (Config.lookaheadOperands a b) 0 (Config.lookaheadFirst :: Config.lookaheadRest)⟩

/-- R133: the sum bits of weights 0..n and the carry into weight n+1, each position specialized on the public `k{p}`. -/
def constAddTo (p : Params) (x : EWord) (k : Word32) : Nat → Circuit (EWord × EBit)
  | 0 =>
    feed (request p (.xork (k.getLsbD 0)) (weightAt x 0) false false) fun s0 =>
    feed (if k.getLsbD 0 then wire (weightAt x 0) else request p (.triv false) false false false) fun c =>
    wire (setWeight 0 0 s0, c)
  | n + 1 =>
    feed (constAddTo p x k n) fun sc =>
    feed (request p .xor (weightAt x (n + 1)) sc.2 false) fun y =>
    feed (request p (.xork (k.getLsbD (n + 1))) y false false) fun sum =>
    if n + 1 < 31 then
      feed (request p (if k.getLsbD (n + 1) then .or else .and) (weightAt x (n + 1)) sc.2 false) fun c =>
      wire (setWeight sc.1 (n + 1) sum, c)
    else wire (setWeight sc.1 (n + 1) sum, false)

/-- R133: ADDK32, addition of a public constant, in R133's reference realization under every adder variant (DEDUCED, log
entry 8). -/
def constAddCircuit (p : Params) (x : EWord) (k : Word32) : Circuit EWord := feed (constAddTo p x k 31) fun sc => wire sc.1

/-! ### Bitwise operators -/

/-- R134: XOR32. -/
def xorCircuit (p : Params) (a b : EWord) : Circuit EWord := eachBit fun i => request p .xor (bitAt a i) (bitAt b i) false

/-- R137: CH32, a bitwise MUX with `e` the select. -/
def chooseCircuit (p : Params) (e f g : EWord) : Circuit EWord :=
  eachBit fun i => muxCircuit p (bitAt e i) (bitAt f i) (bitAt g i)

/-- R138: MAJ32. -/
def majorityCircuit (p : Params) (a b c : EWord) : Circuit EWord :=
  eachBit fun i => majCircuit p (bitAt a i) (bitAt b i) (bitAt c i)

/-- R139: TRIV32, bit `[i]` from `TRIV(k{31-i})`. -/
def trivialCircuit (p : Params) (k : Word32) : Circuit EWord :=
  eachBit fun i => request p (.triv (k.getLsbD (31 - i))) false false false

/-! ### Rotate and shift -/

/-- R135: ROTR, `r[i] <- w[(i - n) mod 32]`: a relabeling, no request. -/
def rotateCircuit (w : EWord) (n : Nat) : Circuit EWord := eachBit fun i => wire (bitAt w ((i + (32 - n % 32)) % 32))

/-- R136: SHR, `r[i] <- (i < n) ? TRIV(0) : w[i - n]`. -/
def shiftCircuit (p : Params) (w : EWord) (n : Nat) : Circuit EWord :=
  eachBit fun i => if i < n then request p (.triv false) false false false else wire (bitAt w (i - n))

/-- R147: stage `j` of the selection network relabels by `2^j` when bit `j` of the public amount is 1. -/
def networkStage (relabel : EWord → Nat → EWord) (n : BitVec 5) (j : Nat) (w : EWord) : EWord :=
  if n.getLsbD j then relabel w (2 ^ j) else w

/-- R147: the five-stage selection network for a run-time amount. -/
def selectionNetwork (relabel : EWord → Nat → EWord) (w : EWord) (n : BitVec 5) : EWord :=
  (List.range 5).foldl (fun x j => networkStage relabel n j x) w

/-! ### The sigma compositions -/

/-- XOR32 of three words, as R140 to R143 bracket it. -/
def xor3Circuit (p : Params) (x y z : Circuit EWord) : Circuit EWord :=
  feed x fun a => feed y fun b => feed (xorCircuit p a b) fun ab => feed z fun c => xorCircuit p ab c

/-- R140: Σ0. -/
def bigSigma0Circuit (p : Params) (x : EWord) : Circuit EWord :=
  xor3Circuit p (rotateCircuit x 2) (rotateCircuit x 13) (rotateCircuit x 22)

/-- R141: Σ1. -/
def bigSigma1Circuit (p : Params) (x : EWord) : Circuit EWord :=
  xor3Circuit p (rotateCircuit x 6) (rotateCircuit x 11) (rotateCircuit x 25)

/-- R142: σ0. -/
def smallSigma0Circuit (p : Params) (x : EWord) : Circuit EWord :=
  xor3Circuit p (rotateCircuit x 7) (rotateCircuit x 18) (shiftCircuit p x 3)

/-- R143: σ1. -/
def smallSigma1Circuit (p : Params) (x : EWord) : Circuit EWord :=
  xor3Circuit p (rotateCircuit x 17) (rotateCircuit x 19) (shiftCircuit p x 10)

/-- The circuit of a word micro-operation on its operand lanes (R86); none for an instruction that is no UOP16. -/
def wordCircuit (i : Instr) (p : Params) (o : Operands) : Option (Circuit EWord) :=
  match i with
  | .init => none
  | .load _ => none
  | .absorb => none
  | .read _ => none
  | .status => none
  | .abort => none
  | .and => none
  | .or => none
  | .xor => none
  | .not => none
  | .mux => none
  | .triv _ => none
  | .xork _ => none
  | .add32 => some (addCircuit p o.s1 o.s2)
  | .addk32 => some (constAddCircuit p o.s1 o.kc)
  | .xor32 => some (xorCircuit p o.s1 o.s2)
  | .rotr n => some (rotateCircuit o.s1 n.toNat)
  | .shr n => some (shiftCircuit p o.s1 n.toNat)
  | .ch32 => some (chooseCircuit p o.s1 o.s2 o.s3)
  | .maj32 => some (majorityCircuit p o.s1 o.s2 o.s3)
  | .bsig0 => some (bigSigma0Circuit p o.s1)
  | .bsig1 => some (bigSigma1Circuit p o.s1)
  | .ssig0 => some (smallSigma0Circuit p o.s1)
  | .ssig1 => some (smallSigma1Circuit p o.s1)
  | .triv32 => some (trivialCircuit p o.kc)

end Sys2Proof.Machine
end

