-- ==== Sys2Proof/Machine/Ops.lean ====
section
/-! DEFINITION. The shared operations: responses, draws, ending a block (the engine's only trap entry), INIT's effects,
command acceptance, and the completion of a gate request and of a word operator. -/

namespace Sys2Proof.Machine

/-- R72: put a response on the response lane. -/
def State.respond (s : State) (rc : Code) (payload : Payload) : State := { s with response := some ⟨rc, payload⟩ }

/-- R207, R234: an illegal command word is answered with ILLEGAL_COMMAND and changes nothing else. -/
def State.answerIllegal (s : State) : State := s.respond .illegalCommand .empty

/-- R11: the oracle's next answer; success where the list of answers has run out (DESIGN CHOICE, log entry 3). -/
def State.nextDraw (s : State) : Draw :=
  match s.draws with
  | [] => .success
  | d :: _ => d

/-- The oracle's next answer is used up. -/
def State.dropDraw (s : State) : State := { s with draws := s.draws.tail }

/-- U10, R37: PHASE and T become unspecified: free values (DESIGN CHOICE, log entry 4). -/
def State.forgetSequencer (s : State) : State :=
  { s with PHASE := Config.unspecPhase s.unspec, T := Config.unspecT s.unspec, unspec := s.unspec + 1 }

/-- R241: the end of a block, whatever ends it: `V` and `W` are dropped, `(ST, ERR)` name the outcome, and PHASE and T
mean nothing any more. It is the engine's whole trap entry (R232, R233, R236). -/
def State.endBlock (s : State) (mode : Mode) (code : Code) : State :=
  { s with V := none, W := unwrittenFile 64, ST := mode, ERR := code }.forgetSequencer

/-- R232, R233: where a block that a gate failure ends leaves the engine. -/
def FailKind.blockMode : FailKind → Mode
  | .evaluationFailure => .idle
  | .keyMismatch => .halted

/-- R232, R233: a gate request of the block's micro-step has failed. -/
def State.failBlock (s : State) (k : FailKind) : State := s.endBlock k.blockMode k.code

/-- R242, R201: a successful INIT, the only way on from HALTED; the state of R260. -/
def State.initDone (s : State) (h : Vector EWord 8) : State :=
  { s with H := some h, M := unwrittenFile 16, LDMASK := 0 }.endBlock .idle .none

/-- R201: an INIT with a failed TRIV request leaves no chaining value. -/
def State.initFailed (s : State) (k : FailKind) : State :=
  { s with H := none, M := unwrittenFile 16, LDMASK := 0 }.endBlock .halted k.code

/-- R202: `M[i] <- w; LDMASK[i] <- 1`. -/
def State.loadWord (s : State) (i : BitVec 4) (w : EWord) : State :=
  { s with M := s.M.set i.toNat (some w) i.isLt, LDMASK := s.LDMASK ||| (1#16 <<< i.toNat) }

/-- R171: the block-start capture, given the chaining value. -/
def State.capture (s : State) (h : Vector EWord 8) : State :=
  { s with W := capturedW s, V := some h, ST := .busy, PHASE := .sched, T := 16 }

/-- R175: the feed-forward's commit, all 8 words at once. -/
def State.commitBlock (s : State) (h : Vector EWord 8) : State :=
  { s with H := some h, LDMASK := 0 }.endBlock .idle .none

/-- R200, steps 2 to 4: run a command in the modes that accept it, answer PROTOCOL in the others. -/
def inModes (modes : List Mode) (s : State) (body : Host.Outcome State Fault Refusal) : Host.Outcome State Fault Refusal :=
  if s.ST ∈ modes then body else .next (s.respond .protocol .empty)

/-- R100, R177: a failed request ends the block in flight, where there is one (DEDUCED, log entry 6). -/
def State.failRequest (s : State) (k : FailKind) : State := if s.ST = .busy then s.failBlock k else s

/-- R82: a gate request is answered by one draw: its circuit's value, or a failure. -/
def finishGate (x : Circuit EBit) (s : State) : Host.Outcome State Fault Refusal :=
  .next <| match s.nextDraw with
    | .success => { s.dropDraw with gateResult := some (.ok x.out) }
    | .fail k => { s.dropDraw with gateResult := some (.fail k) }.failRequest k

/-- R130: an operator that makes a request is answered by one draw (R239): its result, or no result and a failure. One that
makes none cannot fail (R103, R135, R136). -/
def finishWord (x : Circuit EWord) (s : State) : Host.Outcome State Fault Refusal :=
  .next <|
    if makesRequest x then
      match s.nextDraw with
      | .success => { s.dropDraw with D := some x.out }
      | .fail k => { s.dropDraw with D := none }.failRequest k
    else { s with D := some x.out }

end Sys2Proof.Machine
end

