-- ==== Sys2Proof/Machine/Commands.lean ====
section
/-! DEFINITION. The meanings of the host commands (43_host_commands.md). -/

namespace Sys2Proof.Machine

/-- R201: `H'[j] <- TRIV32(IV[j])`, j = 0..7. -/
def initialChain (p : Params) : Vector EWord 8 := Vector.ofFn fun j => (trivialCircuit p ivRom[j]).out

/-- R201: the 256 TRIV requests INIT makes. -/
def initRequests (p : Params) : List Request :=
  (List.range 8).flatMap fun j => (trivialCircuit p (ivRom.toList.getD j 0)).reqs

/-- R201: INIT, accepted in every mode; its requests are answered by one draw (R239; DEDUCED, log entry 11). -/
def execInit (s : State) : Host.Outcome State Fault Refusal :=
  .next <| match s.nextDraw with
    | .success => (s.dropDraw.initDone (initialChain s.params)).respond .none .empty
    | .fail k => (s.dropDraw.initFailed k).respond k.code .empty

/-- R202: LOAD. -/
def execLoad (idx : BitVec 4) (s : State) : Host.Outcome State Fault Refusal :=
  inModes [.idle] s <|
    if s.data.length = 32 then .next ((s.loadWord idx (wordOfBits s.data)).respond .none .empty)
    else .next (s.respond .malformedInput .empty)

/-- R203, R171: ABSORB. -/
def execAbsorb (s : State) : Host.Outcome State Fault Refusal :=
  inModes [.idle] s <|
    if s.LDMASK = 0xFFFF then
      if blockReadable s then
        andThen (written .H s.H) fun h => .next ((s.capture h).respond .none .empty)
      else .fault (.unwritten .M)
    else .next (s.respond .malformedInput .empty)

/-- R204: READ. IDX 8 to 15 is an illegal command (R74, R207; DEDUCED for a term no word decodes to, log entry 14). -/
def execRead (idx : BitVec 4) (s : State) : Host.Outcome State Fault Refusal :=
  if h : idx.toNat < 8 then
    inModes [.idle] s <| andThen (written .H s.H) fun hs => .next (s.respond .none (.word hs[idx.toNat]))
  else .next s.answerIllegal

/-- R205: STATUS, accepted in every mode. -/
def execStatus (s : State) : Host.Outcome State Fault Refusal := .next (s.respond .none (.status (statusWord s)))

/-- R206: ABORT. -/
def execAbort (s : State) : Host.Outcome State Fault Refusal :=
  inModes [.busy] s <| .next ((s.endBlock .halted .aborted).respond .none .empty)

end Sys2Proof.Machine
end

