-- ==== Sys2Proof/Machine/Gates.lean ====
section
/-! DEFINITION. The meanings of the gate requests (40_gates.md). -/

namespace Sys2Proof.Machine

/-- R104. -/
def execAnd (s : State) : Host.Outcome State Fault Refusal := finishGate (gateCircuit s.params .and s.slots) s

/-- R105. -/
def execOr (s : State) : Host.Outcome State Fault Refusal := finishGate (gateCircuit s.params .or s.slots) s

/-- R106. -/
def execXor (s : State) : Host.Outcome State Fault Refusal := finishGate (gateCircuit s.params .xor s.slots) s

/-- R107. -/
def execNot (s : State) : Host.Outcome State Fault Refusal := finishGate (gateCircuit s.params .not s.slots) s

/-- R108: A the select, B taken when it is 1, C when it is 0. -/
def execMux (s : State) : Host.Outcome State Fault Refusal :=
  finishGate (gateCircuit s.params .mux s.slots) s

/-- R109. -/
def execTriv (kb : Bool) (s : State) : Host.Outcome State Fault Refusal :=
  finishGate (gateCircuit s.params (.triv kb) s.slots) s

/-- R110. -/
def execXork (kb : Bool) (s : State) : Host.Outcome State Fault Refusal :=
  finishGate (gateCircuit s.params (.xork kb) s.slots) s

end Sys2Proof.Machine
end

