-- ==== Sys2Proof/Machine/WordMeanings.lean ====
section
/-! DEFINITION. The meanings of the word micro-operations on the word datapath's lanes (41_word_ops.md). -/

namespace Sys2Proof.Machine

/-- R131, R132. -/
def execAdd32 (s : State) : Host.Outcome State Fault Refusal :=
  finishWord (addCircuit s.params s.operands.s1 s.operands.s2) s

/-- R133. -/
def execAddk32 (s : State) : Host.Outcome State Fault Refusal :=
  finishWord (constAddCircuit s.params s.operands.s1 s.operands.kc) s

/-- R134. -/
def execXor32 (s : State) : Host.Outcome State Fault Refusal := finishWord (xorCircuit s.params s.operands.s1 s.operands.s2) s

/-- R135. -/
def execRotr (n : BitVec 5) (s : State) : Host.Outcome State Fault Refusal :=
  finishWord (rotateCircuit s.operands.s1 n.toNat) s

/-- R136. -/
def execShr (n : BitVec 5) (s : State) : Host.Outcome State Fault Refusal :=
  finishWord (shiftCircuit s.params s.operands.s1 n.toNat) s

/-- R137. -/
def execCh32 (s : State) : Host.Outcome State Fault Refusal :=
  finishWord (chooseCircuit s.params s.operands.s1 s.operands.s2 s.operands.s3) s

/-- R138. -/
def execMaj32 (s : State) : Host.Outcome State Fault Refusal :=
  finishWord (majorityCircuit s.params s.operands.s1 s.operands.s2 s.operands.s3) s

/-- R140. -/
def execBsig0 (s : State) : Host.Outcome State Fault Refusal := finishWord (bigSigma0Circuit s.params s.operands.s1) s

/-- R141. -/
def execBsig1 (s : State) : Host.Outcome State Fault Refusal := finishWord (bigSigma1Circuit s.params s.operands.s1) s

/-- R142. -/
def execSsig0 (s : State) : Host.Outcome State Fault Refusal := finishWord (smallSigma0Circuit s.params s.operands.s1) s

/-- R143. -/
def execSsig1 (s : State) : Host.Outcome State Fault Refusal := finishWord (smallSigma1Circuit s.params s.operands.s1) s

/-- R139. -/
def execTriv32 (s : State) : Host.Outcome State Fault Refusal := finishWord (trivialCircuit s.params s.operands.kc) s

end Sys2Proof.Machine
end

