-- ==== Sys2Proof/Machine/Dispatch.lean ====
section
/-! DEFINITION. exec: one arm per instruction, each a direct call of its meaning. -/

namespace Sys2Proof.Machine

def exec (i : Instr) (s : State) : Host.Outcome State Fault Refusal :=
  match i with
  | .init => Sys2Proof.Machine.execInit s
  | .load idx => Sys2Proof.Machine.execLoad idx s
  | .absorb => Sys2Proof.Machine.execAbsorb s
  | .read idx => Sys2Proof.Machine.execRead idx s
  | .status => Sys2Proof.Machine.execStatus s
  | .abort => Sys2Proof.Machine.execAbort s
  | .and => Sys2Proof.Machine.execAnd s
  | .or => Sys2Proof.Machine.execOr s
  | .xor => Sys2Proof.Machine.execXor s
  | .not => Sys2Proof.Machine.execNot s
  | .mux => Sys2Proof.Machine.execMux s
  | .triv kb => Sys2Proof.Machine.execTriv kb s
  | .xork kb => Sys2Proof.Machine.execXork kb s
  | .add32 => Sys2Proof.Machine.execAdd32 s
  | .addk32 => Sys2Proof.Machine.execAddk32 s
  | .xor32 => Sys2Proof.Machine.execXor32 s
  | .rotr n => Sys2Proof.Machine.execRotr n s
  | .shr n => Sys2Proof.Machine.execShr n s
  | .ch32 => Sys2Proof.Machine.execCh32 s
  | .maj32 => Sys2Proof.Machine.execMaj32 s
  | .bsig0 => Sys2Proof.Machine.execBsig0 s
  | .bsig1 => Sys2Proof.Machine.execBsig1 s
  | .ssig0 => Sys2Proof.Machine.execSsig0 s
  | .ssig1 => Sys2Proof.Machine.execSsig1 s
  | .triv32 => Sys2Proof.Machine.execTriv32 s

end Sys2Proof.Machine
end

