-- ==== Sys2Proof/WellFormed.lean ====
section
/-! DEFINITION. Which instruction terms are legal. -/

namespace Sys2Proof

/-- Every operand has its field's width by type; the one check left is R74's: READ names H[0..7] only. -/
def Instr.wellFormed : Instr → Bool
  | .init => true
  | .load _ => true
  | .absorb => true
  | .read idx => decide (idx.toNat < 8)
  | .status => true
  | .abort => true
  | .and => true
  | .or => true
  | .xor => true
  | .not => true
  | .mux => true
  | .triv _ => true
  | .xork _ => true
  | .add32 => true
  | .addk32 => true
  | .xor32 => true
  | .rotr _ => true
  | .shr _ => true
  | .ch32 => true
  | .maj32 => true
  | .bsig0 => true
  | .bsig1 => true
  | .ssig0 => true
  | .ssig1 => true
  | .triv32 => true

end Sys2Proof
end

