-- ==== Sys2Proof/Decode.lean ====
section
/-! DEFINITION. The decoders of the three formats, the encoder, and the match and mask rows of the spec's tables. -/

namespace Sys2Proof

/-- A word of one of the three fixed-length formats (R70, R91). -/
inductive Encoded
  | cmd32 (w : BitVec 32)
  | gate8 (b : BitVec 8)
  | uop16 (w : BitVec 16)
  deriving DecidableEq, Repr

/-- Why a word decodes to no instruction (R83, R88, R92). -/
inductive Reject
  /-- CMD32 OP 0x0 or 0x7 to 0xF. -/
  | commandOpcode
  /-- CMD32 RSV other than 0. -/
  | commandReserved
  /-- CMD32 IDX other than 0 where none is allowed, or 8 to 15 for READ. -/
  | commandIndex
  /-- GATE8 GOP 0x0 or 0x8 to 0xF. -/
  | gateOpcode
  /-- GATE8 RSV other than 0. -/
  | gateReserved
  /-- GATE8 KB = 1 with a GOP other than TRIV and XORK. -/
  | gateConstant
  /-- UOP16 UOP 0x00 or 0x0D to 0x1F. -/
  | uopOpcode
  /-- UOP16 RSV other than 0. -/
  | uopReserved
  /-- UOP16 N other than 0 for a UOP other than ROTR and SHR. -/
  | uopAmount
  deriving DecidableEq, Repr

/-! ### Fields (R71, R80, R85) -/

def cmdOp (w : BitVec 32) : BitVec 4 := w.extractLsb' 28 4
def cmdRsv (w : BitVec 32) : BitVec 24 := w.extractLsb' 4 24
def cmdIdx (w : BitVec 32) : BitVec 4 := w.extractLsb' 0 4

def gateOp (b : BitVec 8) : BitVec 4 := b.extractLsb' 4 4
def gateRsv (b : BitVec 8) : BitVec 3 := b.extractLsb' 1 3
def gateKb (b : BitVec 8) : Bool := b.getLsbD 0

def uopOp (w : BitVec 16) : BitVec 5 := w.extractLsb' 11 5
def uopN (w : BitVec 16) : BitVec 5 := w.extractLsb' 6 5
def uopRsv (w : BitVec 16) : BitVec 6 := w.extractLsb' 0 6

/-! ### Decoders -/

/-- A command without an index: IDX must be 0 (R74). -/
def commandNoIndex (idx : BitVec 4) (i : Instr) : Except Reject Instr :=
  if idx = 0 then .ok i else .error .commandIndex

/-- The CMD32 opcode map, R73, once RSV is known to be 0. -/
def decodeCommandFields (op idx : BitVec 4) : Except Reject Instr :=
  if op = 0x1 then commandNoIndex idx .init
  else if op = 0x2 then .ok (.load idx)
  else if op = 0x3 then commandNoIndex idx .absorb
  else if op = 0x4 then if idx.toNat < 8 then .ok (.read idx) else .error .commandIndex
  else if op = 0x5 then commandNoIndex idx .status
  else if op = 0x6 then commandNoIndex idx .abort
  else .error .commandOpcode

/-- The engine's decoder of a host command word (R70, R71, R73). -/
def decodeCmd32 (w : BitVec 32) : Except Reject Instr :=
  if cmdRsv w = 0 then decodeCommandFields (cmdOp w) (cmdIdx w) else .error .commandReserved

/-- A gate without a public constant: KB must be 0 (R80). -/
def gateNoConstant (kb : Bool) (i : Instr) : Except Reject Instr :=
  if kb then .error .gateConstant else .ok i

/-- The GATE8 opcode map, R81, once RSV is known to be 0. -/
def decodeGateFields (op : BitVec 4) (kb : Bool) : Except Reject Instr :=
  if op = 0x1 then gateNoConstant kb .and
  else if op = 0x2 then gateNoConstant kb .or
  else if op = 0x3 then gateNoConstant kb .xor
  else if op = 0x4 then gateNoConstant kb .not
  else if op = 0x5 then gateNoConstant kb .mux
  else if op = 0x6 then .ok (.triv kb)
  else if op = 0x7 then .ok (.xork kb)
  else .error .gateOpcode

/-- The evaluator's decoder of a gate request byte (R70, R80, R81). -/
def decodeGate8 (b : BitVec 8) : Except Reject Instr :=
  if gateRsv b = 0 then decodeGateFields (gateOp b) (gateKb b) else .error .gateReserved

/-- A word operator without an amount: N must be 0 (R85). -/
def uopNoAmount (n : BitVec 5) (i : Instr) : Except Reject Instr :=
  if n = 0 then .ok i else .error .uopAmount

/-- The UOP16 opcode map, R86, once RSV is known to be 0. -/
def decodeUopFields (op n : BitVec 5) : Except Reject Instr :=
  if op = 0x01 then uopNoAmount n .add32
  else if op = 0x02 then uopNoAmount n .addk32
  else if op = 0x03 then uopNoAmount n .xor32
  else if op = 0x04 then .ok (.rotr n)
  else if op = 0x05 then .ok (.shr n)
  else if op = 0x06 then uopNoAmount n .ch32
  else if op = 0x07 then uopNoAmount n .maj32
  else if op = 0x08 then uopNoAmount n .bsig0
  else if op = 0x09 then uopNoAmount n .bsig1
  else if op = 0x0A then uopNoAmount n .ssig0
  else if op = 0x0B then uopNoAmount n .ssig1
  else if op = 0x0C then uopNoAmount n .triv32
  else .error .uopOpcode

/-- The word datapath's decoder of a micro-operation (R70, R85, R86). -/
def decodeUop16 (w : BitVec 16) : Except Reject Instr :=
  if uopRsv w = 0 then decodeUopFields (uopOp w) (uopN w) else .error .uopReserved

/-- Decoding, each format by its own decoder. -/
def decode : Encoded → Except Reject Instr
  | .cmd32 w => decodeCmd32 w
  | .gate8 b => decodeGate8 b
  | .uop16 w => decodeUop16 w

/-- The instruction the decoder reads from the bits `w` of a row that is `nbits` wide: the width names the format (R70). -/
def decodeTableWord (nbits w : Nat) : Option Instr :=
  if nbits = 32 then (decodeCmd32 (BitVec.ofNat 32 w)).toOption
  else if nbits = 16 then (decodeUop16 (BitVec.ofNat 16 w)).toOption
  else if nbits = 8 then (decodeGate8 (BitVec.ofNat 8 w)).toOption
  else none

/-! ### Encoder -/

/-- A CMD32 word from OP and IDX, RSV zero (R71). -/
def cmdBits (op idx : BitVec 4) : BitVec 32 := op ++ (0 : BitVec 24) ++ idx

/-- A CMD32 word as an encoding. -/
def cmdWord (op idx : BitVec 4) : Encoded := .cmd32 (cmdBits op idx)

/-- A GATE8 byte from GOP and KB, RSV zero (R80). -/
def gateByte (op : BitVec 4) (kb : Bool) : Encoded := .gate8 (op ++ (0 : BitVec 3) ++ BitVec.ofBool kb)

/-- A UOP16 word from UOP and N, RSV zero (R85). -/
def uopWord (op n : BitVec 5) : Encoded := .uop16 (op ++ n ++ (0 : BitVec 6))

/-- The encoding of an instruction, from the opcode maps R73, R81 and R86. -/
def encode : Instr → Encoded
  | .init => cmdWord 0x1 0
  | .load idx => cmdWord 0x2 idx
  | .absorb => cmdWord 0x3 0
  | .read idx => cmdWord 0x4 idx
  | .status => cmdWord 0x5 0
  | .abort => cmdWord 0x6 0
  | .and => gateByte 0x1 false
  | .or => gateByte 0x2 false
  | .xor => gateByte 0x3 false
  | .not => gateByte 0x4 false
  | .mux => gateByte 0x5 false
  | .triv kb => gateByte 0x6 kb
  | .xork kb => gateByte 0x7 kb
  | .add32 => uopWord 0x01 0
  | .addk32 => uopWord 0x02 0
  | .xor32 => uopWord 0x03 0
  | .rotr n => uopWord 0x04 n
  | .shr n => uopWord 0x05 n
  | .ch32 => uopWord 0x06 0
  | .maj32 => uopWord 0x07 0
  | .bsig0 => uopWord 0x08 0
  | .bsig1 => uopWord 0x09 0
  | .ssig0 => uopWord 0x0A 0
  | .ssig1 => uopWord 0x0B 0
  | .triv32 => uopWord 0x0C 0

/-! ### The match and mask rows of R75, R81 and R86 -/

/-- One row of a match and mask table. -/
structure Row (n : Nat) where
  pattern : BitVec n
  mask : BitVec n
  deriving DecidableEq, Repr

/-- A word matches a row when `word AND mask = match` (R75). -/
def Row.fits {n : Nat} (r : Row n) (w : BitVec n) : Bool := w &&& r.mask == r.pattern

/-- R75, in its order: INIT, LOAD, ABSORB, READ, STATUS, ABORT. -/
def cmdRows : List (Row 32) :=
  [⟨0x10000000, 0xFFFFFFFF⟩, ⟨0x20000000, 0xFFFFFFF0⟩, ⟨0x30000000, 0xFFFFFFFF⟩,
   ⟨0x40000000, 0xFFFFFFF8⟩, ⟨0x50000000, 0xFFFFFFFF⟩, ⟨0x60000000, 0xFFFFFFFF⟩]

/-- R81, in its order: AND, OR, XOR, NOT, MUX, TRIV, XORK. -/
def gateRows : List (Row 8) :=
  [⟨0x10, 0xFF⟩, ⟨0x20, 0xFF⟩, ⟨0x30, 0xFF⟩, ⟨0x40, 0xFF⟩, ⟨0x50, 0xFF⟩, ⟨0x60, 0xFE⟩, ⟨0x70, 0xFE⟩]

/-- R86, in its order: ADD32, ADDK32, XOR32, ROTR, SHR, CH32, MAJ32, BSIG0, BSIG1, SSIG0, SSIG1, TRIV32. -/
def uopRows : List (Row 16) :=
  [⟨0x0800, 0xFFFF⟩, ⟨0x1000, 0xFFFF⟩, ⟨0x1800, 0xFFFF⟩, ⟨0x2000, 0xF83F⟩, ⟨0x2800, 0xF83F⟩, ⟨0x3000, 0xFFFF⟩] ++
  [⟨0x3800, 0xFFFF⟩, ⟨0x4000, 0xFFFF⟩, ⟨0x4800, 0xFFFF⟩, ⟨0x5000, 0xFFFF⟩, ⟨0x5800, 0xFFFF⟩, ⟨0x6000, 0xFFFF⟩]

/-- How many rows of a table a word matches. -/
def matchCount {n : Nat} (rows : List (Row n)) (w : BitVec n) : Nat := (rows.filter (·.fits w)).length

/-- The place of a row in the opcode table: its format's table and its index there. -/
inductive RowRef
  | cmd (k : Fin 6)
  | gate (k : Fin 7)
  | uop (k : Fin 12)
  deriving DecidableEq, Repr

/-- The opcode-table row each instruction stands for. -/
def rowOf : Instr → RowRef
  | .init => .cmd 0
  | .load _ => .cmd 1
  | .absorb => .cmd 2
  | .read _ => .cmd 3
  | .status => .cmd 4
  | .abort => .cmd 5
  | .and => .gate 0
  | .or => .gate 1
  | .xor => .gate 2
  | .not => .gate 3
  | .mux => .gate 4
  | .triv _ => .gate 5
  | .xork _ => .gate 6
  | .add32 => .uop 0
  | .addk32 => .uop 1
  | .xor32 => .uop 2
  | .rotr _ => .uop 3
  | .shr _ => .uop 4
  | .ch32 => .uop 5
  | .maj32 => .uop 6
  | .bsig0 => .uop 7
  | .bsig1 => .uop 8
  | .ssig0 => .uop 9
  | .ssig1 => .uop 10
  | .triv32 => .uop 11

/-- Whether an encoded word matches a row, under that row's own match and mask. -/
def RowRef.matchesWord : RowRef → Encoded → Bool
  | .cmd k, .cmd32 w => (cmdRows[k]).fits w
  | .gate k, .gate8 b => (gateRows[k]).fits b
  | .uop k, .uop16 w => (uopRows[k]).fits w
  | .cmd _, .gate8 _ => false
  | .cmd _, .uop16 _ => false
  | .gate _, .cmd32 _ => false
  | .gate _, .uop16 _ => false
  | .uop _, .cmd32 _ => false
  | .uop _, .gate8 _ => false

end Sys2Proof
end

