-- ==== Sys2Proof/Machine/Sequencer.lean ====
section
/-! DEFINITION. The 64-round controller: the reference micro-sequences as UOP16 words with their fixed wiring, and the
micro-steps that run them (42_compression.md). -/

namespace Sys2Proof.Machine

/-- Where a line of a micro-sequence takes a word from (R87, R174). -/
inductive Src
  /-- `W[T - back]`. -/
  | schedule (back : Nat)
  /-- `V[j]`. -/
  | working (j : Fin 8)
  /-- `H[j]`. -/
  | chaining (j : Fin 8)
  /-- The result of an earlier line of the same micro-step, counted from 0. -/
  | line (k : Nat)
  deriving DecidableEq, Repr

/-- One line of a micro-sequence: a UOP16 word and the words that feed S1, S2 and S3. -/
structure Line where
  uop : BitVec 16
  srcs : List Src
  deriving DecidableEq, Repr

/-- R174, SCHED: line 4 (the fifth) is `W[t]`. -/
def schedLines : List Line :=
  [⟨0x5800, [.schedule 2]⟩, ⟨0x5000, [.schedule 15]⟩, ⟨0x0800, [.line 0, .schedule 7]⟩,
   ⟨0x0800, [.line 2, .line 1]⟩, ⟨0x0800, [.line 3, .schedule 16]⟩]

/-- R174, ROUND: lines x1 to x5, T1, y1, y2, T2, e', a'. -/
def roundLines : List Line :=
  [⟨0x1000, [.working 7]⟩, ⟨0x4800, [.working 4]⟩, ⟨0x3000, [.working 4, .working 5, .working 6]⟩,
   ⟨0x0800, [.line 0, .line 1]⟩, ⟨0x0800, [.line 3, .line 2]⟩, ⟨0x0800, [.line 4, .schedule 0]⟩] ++
  [⟨0x4000, [.working 0]⟩, ⟨0x3800, [.working 0, .working 1, .working 2]⟩, ⟨0x0800, [.line 6, .line 7]⟩,
   ⟨0x0800, [.working 3, .line 5]⟩, ⟨0x0800, [.line 5, .line 8]⟩]

/-- R174, FF: line `j` is `H'[j]`. -/
def ffLines : List Line := (List.finRange 8).map fun j => ⟨0x0800, [.chaining j, .working j]⟩

/-- Read one source; a word that holds no value is a model fault (R32). -/
def readSrc (s : State) (results : List EWord) : Src → Host.Outcome EWord Fault Refusal
  | .schedule back => written .W (readW s (s.T.val - back))
  | .working j => andThen (written .V s.V) fun v => .next v[j]
  | .chaining j => andThen (written .H s.H) fun h => .next h[j]
  | .line k =>
    match results[k]? with
    | some w => .next w
    | none => .fault .noSuchMicroStep

/-- Read the sources of a line in order. -/
def readSrcs (s : State) (results : List EWord) : List Src → Host.Outcome (List EWord) Fault Refusal
  | [] => .next []
  | x :: xs => andThen (readSrc s results x) fun w => andThen (readSrcs s results xs) fun ws => .next (w :: ws)

/-- The operand lanes of a line: its words on S1, S2, S3 in order, and `K[T]` on KC (R90); a lane the operator does not use
is given a 0 that is not read. -/
def lineOperands (s : State) (ws : List EWord) : Operands := ⟨ws.getD 0 0, ws.getD 1 0, ws.getD 2 0, kRom[s.T]⟩

/-- Run one line: decode its UOP16 word and build that operator on the line's operands. -/
def runLine (s : State) (results : List EWord) (l : Line) : Host.Outcome (Circuit EWord) Fault Refusal :=
  andThen (readSrcs s results l.srcs) fun ws =>
    match decodeUop16 l.uop with
    | .ok i =>
      match wordCircuit i s.params (lineOperands s ws) with
      | some x => .next x
      | none => .refused (.reservedWordOp l.uop)
    | .error _ => .refused (.reservedWordOp l.uop)

/-- Run the lines of a micro-sequence, collecting each line's result and all their gate requests. -/
def runLines (s : State) : List Line → Circuit (List EWord) → Host.Outcome (Circuit (List EWord)) Fault Refusal
  | [], done => .next done
  | l :: ls, done =>
    andThen (runLine s done.out l) fun x => runLines s ls ⟨done.out ++ [x.out], done.reqs ++ x.reqs⟩

/-- R239, R177: a micro-step draws once; it commits its writes, or ends the block as R232 and R233 say. -/
def finishMicroStep (s : State) (commit : State → State) : State :=
  match s.nextDraw with
  | .success => commit s.dropDraw
  | .fail k => s.dropDraw.failBlock k

/-- R176: where the controller goes after a schedule step or a round; T stays 63 on the way to FF (DEDUCED, log entry 9). -/
def nextPosition (p : Phase) (t : Fin 64) : Phase × Fin 64 :=
  match p with
  | .sched => if t = 63 then (.round, 0) else (.sched, t + 1)
  | .round => if t = 63 then (.ff, t) else (.round, t + 1)
  | .ff => (.ff, t)

/-- The controller advances (R176). -/
def State.advance (s : State) : State :=
  { s with PHASE := (nextPosition s.PHASE s.T).1, T := (nextPosition s.PHASE s.T).2 }

/-- R172: `W[t]` is written. -/
def State.writeW (s : State) (w : EWord) : State := { s with W := s.W.set s.T.val (some w) s.T.isLt }

/-- R173: the working variables are written, all 8 at once. -/
def State.writeV (s : State) (v : Vector EWord 8) : State := { s with V := some v }

/-- R174, ROUND line 12: `(a', a, b, c, e', e, f, g)`. -/
def roundUpdate (v : Vector EWord 8) (a' e' : EWord) : Vector EWord 8 :=
  #v[a', v[0], v[1], v[2], e', v[4], v[5], v[6]]

/-- R172: the schedule micro-step `(SCHED, t)`, 16 <= t <= 63. -/
def schedStep (s : State) : Host.Outcome State Fault Refusal :=
  if s.T.val < 16 then .fault .noSuchMicroStep
  else
    andThen (runLines s schedLines ⟨[], []⟩) fun x =>
      match x.out[4]? with
      | some w => .next (finishMicroStep s fun u => (u.writeW w).advance)
      | none => .fault .noSuchMicroStep

/-- R173: the round micro-step `(ROUND, t)`. -/
def roundStep (s : State) : Host.Outcome State Fault Refusal :=
  andThen (runLines s roundLines ⟨[], []⟩) fun x =>
  andThen (written .V s.V) fun v =>
    match x.out[9]?, x.out[10]? with
    | some e', some a' => .next (finishMicroStep s fun u => (u.writeV (roundUpdate v a' e')).advance)
    | _, _ => .fault .noSuchMicroStep

/-- The eight words of a list of eight. -/
def eightWords (ws : List EWord) : Option (Vector EWord 8) := if h : ws.length = 8 then some ⟨⟨ws⟩, h⟩ else none

/-- R175: the feed-forward micro-step. -/
def ffStep (s : State) : Host.Outcome State Fault Refusal :=
  andThen (runLines s ffLines ⟨[], []⟩) fun x =>
    match eightWords x.out with
    | some h => .next (finishMicroStep s fun u => u.commitBlock h)
    | none => .fault .noSuchMicroStep

/-- R176: the controller's turn. A micro-step is enabled exactly when `ST = BUSY`; otherwise the engine waits. -/
def microStep (s : State) : Host.Outcome State Fault Refusal :=
  match s.ST with
  | .idle => .next s
  | .halted => .next s
  | .busy =>
    match s.PHASE with
    | .sched => schedStep s
    | .round => roundStep s
    | .ff => ffStep s

/-- R272: the gate requests of the micro-step at the controller's position, in the reference order. -/
def microStepRequests (s : State) : Host.Outcome (List Request) Fault Refusal :=
  andThen
    (match s.PHASE with
      | .sched => runLines s schedLines ⟨[], []⟩
      | .round => runLines s roundLines ⟨[], []⟩
      | .ff => runLines s ffLines ⟨[], []⟩)
    fun x => .next x.reqs

end Sys2Proof.Machine
end

