-- ==== Sys2Proof/Machine/Fetch.lean ====
section
/-! DEFINITION. Taking the next event and decoding it: what the machine does next (R60, R209). -/

namespace Sys2Proof.Machine

/-- What the next event asks of the machine. -/
inductive Fetched
  /-- Run this instruction, its operands on their lanes. -/
  | run (i : Instr) (s : State)
  /-- The event is answered without an instruction: an illegal command word (R207). -/
  | answered (s : State)
  /-- It is the controller's turn (R176). -/
  | controller (s : State)
  /-- A reserved encoding, of which the model takes no step (R83, R88). -/
  | reserved (r : Refusal)
  deriving DecidableEq, Repr

/-- The next event, with its operands latched on the lanes. With no event waiting it is the controller's turn. -/
def fetch (s : State) : Fetched :=
  match s.pending with
  | [] => .controller s
  | .microStep :: es => .controller { s with pending := es }
  | .command w data :: es =>
    match decodeCmd32 w with
    | .ok i => .run i { s with pending := es, data := data }
    | .error _ => .answered ({ s with pending := es, data := data } : State).answerIllegal
  | .wordOp w operands :: es =>
    match decodeUop16 w with
    | .ok i => .run i { s with pending := es, operands := operands }
    | .error _ => .reserved (.reservedWordOp w)
  | .gateRequest b slots :: es =>
    match decodeGate8 b with
    | .ok i => .run i { s with pending := es, slots := slots }
    | .error _ => .reserved (.reservedGate b)

/-- The event that presents a table word of `nbits` bits, its operand lanes holding zeros (a LOAD's DATA: 32 of them). -/
def tableEvent (nbits w : Nat) : Event :=
  if nbits = 32 then .command (BitVec.ofNat 32 w) (List.replicate 32 false)
  else if nbits = 16 then .wordOp (BitVec.ofNat 16 w) ⟨0, 0, 0, 0⟩
  else .gateRequest (BitVec.ofNat 8 w) ⟨some false, some false, some false⟩

end Sys2Proof.Machine
end

