-- ==== Sys2Proof/Machine/Step.lean ====
section
/-! DEFINITION. One step of the machine: one command, one micro-step, or one request at an inner boundary. -/

namespace Sys2Proof.Machine

/-- R60, R176: take the next event and run it. -/
def step (s : State) : Host.Outcome State Fault Refusal :=
  match fetch s with
  | .run i s' => exec i s'
  | .answered s' => .next s'
  | .controller s' => microStep s'
  | .reserved r => .refused r

/-- `s` with a table word as its very next event (DESIGN CHOICE, log entry 2). -/
def State.withFetchWord (s : State) (nbits w : Nat) : State := { s with pending := tableEvent nbits w :: s.pending }

end Sys2Proof.Machine
end

