-- ==== Sys2Proof/Machine/HostMacro.lean ====
section
/-! DEFINITION. The host's side: the pseudo-instructions LOADBLK, WAIT, DIGEST and HASH over the machine's steps (R94, R210,
R211), and the host duties of padding and digest assembly (R212 to R215). The engine's step uses none of it. -/

namespace Sys2Proof.Machine

/-! ### Commands as the host issues them -/

/-- How a host sequence ends. -/
inductive HostResult (α : Type)
  | done (a : α)
  /-- An error code, surfaced to the caller with the state it leaves (R211). -/
  | error (c : Code) (s : State)
  /-- The engine stopped, or the polling bound ran out. -/
  | stopped
  deriving DecidableEq, Repr

/-- Go on with a host sequence. -/
def afterHost {α β : Type} (r : HostResult α) (f : α → HostResult β) : HostResult β :=
  match r with
  | .done a => f a
  | .error c s => .error c s
  | .stopped => .stopped

/-- Let the engine take one event now. -/
def offer (e : Event) (s : State) : HostResult State :=
  match step { s with pending := e :: s.pending } with
  | .next t => .done t
  | .fault _ => .stopped
  | .refused _ => .stopped

/-- Issue a command and return its payload; a response code other than 0 is an error (R211). -/
def issue (op idx : BitVec 4) (data : List EBit) (s : State) : HostResult (State × Payload) :=
  afterHost (offer (.command (cmdBits op idx) data) s) fun t =>
    match t.response with
    | some r => if r.rc = .none then .done (t, r.payload) else .error r.rc t
    | none => .stopped

/-- R94: LOADBLK, the words from index `j` on. -/
def loadBlockFrom (s : State) : Nat → List (List EBit) → HostResult State
  | _, [] => .done s
  | j, w :: ws => afterHost (issue 0x2 (BitVec.ofNat 4 j) w s) fun r => loadBlockFrom r.1 (j + 1) ws

/-- The code a STATUS word's ERR field names (R29, R230). -/
def errField (w : Word32) : Code :=
  let n := w.extractLsb' 4 4
  if n = 0 then .none else if n = 1 then .malformedInput else if n = 2 then .keyMismatch
  else if n = 3 then .evaluationFailure else if n = 4 then .illegalCommand else if n = 5 then .protocol else .aborted

/-- R94: WAIT, repeating STATUS until STATE is not BUSY, whatever ERR then is; it answers the last STATUS word. Between two polls
the engine takes one micro-step, and `fuel` bounds the polls (DESIGN CHOICE, log entry 16). -/
def waitBlock : Nat → State → HostResult (State × Word32)
  | 0, _ => .stopped
  | fuel + 1, s =>
    afterHost (issue 0x5 0 [] s) fun r =>
      match r.2 with
      | .status w =>
        if w.extractLsb' 0 2 = 1 then afterHost (offer .microStep r.1) (waitBlock fuel)
        else .done (r.1, w)
      | .empty => .stopped
      | .word _ => .stopped

/-- R211: one block of the macro; an ERR other than 0 at its end is surfaced. -/
def hashBlock (fuel : Nat) (s : State) (block : List (List EBit)) : HostResult State :=
  afterHost (loadBlockFrom s 0 block) fun t =>
  afterHost (issue 0x3 0 [] t) fun r =>
  afterHost (waitBlock fuel r.1) fun e => if errField e.2 = .none then .done e.1 else .error (errField e.2) e.1

/-- R211: the blocks of the macro, in order. -/
def hashBlocks (fuel : Nat) (s : State) : List (List (List EBit)) → HostResult State
  | [] => .done s
  | b :: bs => afterHost (hashBlock fuel s b) fun t => hashBlocks fuel t bs

/-- R94: DIGEST, the READs from index 8 - n on. -/
def readDigest (s : State) : Nat → HostResult (List EWord)
  | 0 => .done []
  | n + 1 =>
    afterHost (issue 0x4 (BitVec.ofNat 4 (7 - n)) [] s) fun r =>
      match r.2 with
      | .word w => afterHost (readDigest r.1 n) fun ws => .done (w :: ws)
      | .empty => .stopped
      | .status _ => .stopped

/-- R211: a block has exactly 16 words of exactly 32 bits. -/
def wellFormedBlock (b : List (List EBit)) : Bool := b.length == 16 && b.all fun w => w.length == 32

/-- R211: the host macro `sha256_tfhe`, HASH. -/
def sha256Tfhe (fuel : Nat) (blocks : List (List (List EBit))) (s : State) : HostResult (List EWord) :=
  if blocks.all wellFormedBlock then
    afterHost (issue 0x1 0 [] s) fun r =>
    afterHost (hashBlocks fuel r.1 blocks) fun t => readDigest t 8
  else .error .malformedInput s

/-! ### Host duties: the Input Encoder/Decoder -/

/-- R53, R212: a message's bits, each byte's most significant bit first. -/
def messageBits (m : List Byte) : List Bool := m.flatMap fun b => (List.range 8).map fun i => b.getMsbD i

/-- R212: the zero count for a message of `len` bits. -/
def padZeros (len : Nat) : Nat := (959 - len % 512) % 512

/-- R212: the message, a 1-bit, the zeros, the 64-bit big-endian bit length. Of a message of 2^64 bits or more, which R182 leaves
to the host, the length field holds the length modulo 2^64 (DESIGN CHOICE, log entry 20). -/
def padBits (m : List Bool) : List Bool :=
  m ++ [true] ++ List.replicate (padZeros m.length) false ++
    (List.range 64).map fun i => (BitVec.ofNat 64 m.length).getMsbD i

/-- The first `k` pieces of `n` bits each of a bit list. -/
def pieces (n : Nat) : Nat → List Bool → List (List Bool)
  | 0, _ => []
  | k + 1, bs => bs.take n :: pieces n k (bs.drop n)

/-- A bit list as blocks of 16 words of 32 bits. -/
def blocksOf (bs : List EBit) : List (List (List EBit)) := (pieces 512 (bs.length / 512) bs).map (pieces 32 16)

/-- R211: a host that is handed one flat bit sequence checks that its length is a multiple of 512. -/
def blocksOfFlat (bs : List EBit) : Except Code (List (List (List EBit))) :=
  if bs.length % 512 = 0 then .ok (blocksOf bs) else .error .malformedInput

/-- R212: the padded message as blocks of 16 words of 32 bits; R213: `enc` is the identity on values. -/
def encodeMessage (m : List Byte) : List (List (List EBit)) := blocksOf (padBits (messageBits m))

/-- R215: byte `j` of the digest, from bits `8j .. 8j+7`. -/
def digestByte (bits : List EBit) (j : Nat) : Byte := ((bits.drop (8 * j)).take 8).foldl BitVec.shiftConcat 0

/-- R215: digest decryption; a decryption error unless there are exactly 256 bits. -/
def decryptDigest (bits : List EBit) : Option (List Byte) :=
  if bits.length = 256 then some ((List.range 32).map (digestByte bits)) else none

/-- R54: the EncryptedDigest, `H[0] ‖ .. ‖ H[7]` bit by bit. -/
def digestBits (ws : List EWord) : List EBit := ws.flatMap fun w => (List.range 32).map fun i => w.getMsbD i

end Sys2Proof.Machine
end

