-- ==== Sys2Proof/Machine/Reference.lean ====
section
/-! DEFINITION. The plaintext functions the encrypted circuits stand for, and the compression function `C` of R181. -/

namespace Sys2Proof.Machine

/-- R137. -/
def choose (e f g : EWord) : EWord := (e &&& f) ||| (~~~e &&& g)

/-- R138. -/
def majority (a b c : EWord) : EWord := (a &&& b) ||| (b &&& c) ||| (a &&& c)

/-- R135: `((val(w) >> n) OR (val(w) << (32 - n))) mod 2^32`. -/
def rotateRight (w : EWord) (n : Nat) : EWord := (w >>> n) ||| (w <<< (32 - n))

/-- R140. -/
def bigSigma0 (x : EWord) : EWord := rotateRight x 2 ^^^ rotateRight x 13 ^^^ rotateRight x 22

/-- R141. -/
def bigSigma1 (x : EWord) : EWord := rotateRight x 6 ^^^ rotateRight x 11 ^^^ rotateRight x 25

/-- R142. -/
def smallSigma0 (x : EWord) : EWord := rotateRight x 7 ^^^ rotateRight x 18 ^^^ (x >>> 3)

/-- R143. -/
def smallSigma1 (x : EWord) : EWord := rotateRight x 17 ^^^ rotateRight x 19 ^^^ (x >>> 10)

/-- R172: the schedule recurrence on `W[t-2]`, `W[t-7]`, `W[t-15]`, `W[t-16]`. -/
def scheduleWord (w2 w7 w15 w16 : EWord) : EWord := smallSigma1 w2 + w7 + smallSigma0 w15 + w16

/-- R173: T1. -/
def roundT1 (v : Vector EWord 8) (k w : EWord) : EWord := v[7] + bigSigma1 v[4] + choose v[4] v[5] v[6] + k + w

/-- R173: T2. -/
def roundT2 (v : Vector EWord 8) : EWord := bigSigma0 v[0] + majority v[0] v[1] v[2]

/-- R173: the working variables after a round. -/
def roundValue (v : Vector EWord 8) (k w : EWord) : Vector EWord 8 :=
  #v[roundT1 v k w + roundT2 v, v[0], v[1], v[2], v[3] + roundT1 v k w, v[4], v[5], v[6]]

/-- R181: the schedule words 0 .. 15+n of a block. -/
def scheduleTo (m : List EWord) : Nat → List EWord
  | 0 => m
  | n + 1 =>
    let w := scheduleTo m n
    w ++ [scheduleWord (w.getD (n + 14) 0) (w.getD (n + 9) 0) (w.getD (n + 1) 0) (w.getD n 0)]

/-- R181: the working variables after the first `n` rounds. -/
def roundsTo (h : Vector EWord 8) (w : List EWord) : Nat → Vector EWord 8
  | 0 => h
  | n + 1 => roundValue (roundsTo h w n) (kRom.toList.getD n 0) (w.getD n 0)

/-- R175: the feed-forward sums. -/
def feedForward (h v : Vector EWord 8) : Vector EWord 8 := Vector.ofFn fun j => h[j] + v[j]

/-- R181: the compression function `C(Hin, M)`. -/
def compress (h : Vector EWord 8) (m : Vector EWord 16) : Vector EWord 8 :=
  feedForward h (roundsTo h (scheduleTo m.toList 48) 64)

end Sys2Proof.Machine
end

