-- ==== Sys2Proof/Safety.lean ====
section
/-! DEFINITION. What counts as a safe state and a safe run, and what the host and the evaluator may learn of a state. -/

namespace Sys2Proof.Machine

/-! ### The invariant -/

/-- R32: the schedule words below `n` hold values. -/
abbrev ScheduleWritten (s : State) (n : Nat) : Prop := ∀ i : Fin 64, i.val < n → (s.W[i]).isSome

/-- R176, R32: the controller's position is one of the table's, and what its micro-step reads is written. -/
abbrev PositionLegal (s : State) : Prop :=
  (s.PHASE = .sched → 16 ≤ s.T.val ∧ ScheduleWritten s s.T.val) ∧ (s.PHASE ≠ .sched → ScheduleWritten s 64)

/-- While a block is in flight: `H` and `V` hold values, the buffer is full, the position is legal (R171, R176, R241). -/
abbrev BlockOpen (s : State) : Prop := s.H.isSome ∧ s.V.isSome ∧ s.LDMASK = 0xFFFF ∧ PositionLegal s

/-- R32: outside a block, `V` and `W` hold no value. -/
abbrev BlockClosed (s : State) : Prop := s.V = none ∧ ∀ i : Fin 64, s.W[i] = none

/-- R25: a set LDMASK bit means the word is written. -/
abbrev MaskHonest (s : State) : Prop := ∀ i : Fin 16, s.LDMASK.getLsbD i.val = true → (s.M[i]).isSome

/-- R30, R232, R233, R236, R201: which ERR goes with which mode; refusal codes are never in ERR. -/
abbrev ErrHonest (s : State) : Prop :=
  (s.ST ≠ .halted → s.ERR = .none ∨ s.ERR = .evaluationFailure) ∧
  (s.ST = .halted → s.ERR = .keyMismatch ∨ s.ERR = .evaluationFailure ∨ s.ERR = .aborted)

/-- The engine's invariant. -/
abbrev EngineInv (s : State) : Prop :=
  (s.ST = .busy → BlockOpen s) ∧ (s.ST ≠ .busy → BlockClosed s) ∧ (s.ST = .idle → s.H.isSome) ∧ MaskHonest s ∧ ErrHonest s

/-! ### What no one without the client key learns -/

/-- A file with its encrypted values hidden: only which words are written is left. -/
def hideFile {n : Nat} (f : Vector (Option EWord) n) : Vector (Option EWord) n := Vector.ofFn fun i => f[i].map fun _ => 0

/-- A payload with an encrypted word hidden. -/
def hidePayload : Payload → Payload
  | .empty => .empty
  | .word _ => .word 0
  | .status w => .status w

/-- A gate result with its bit hidden. -/
def hideGateResult : GateResult → GateResult
  | .ok _ => .ok false
  | .fail k => .fail k

/-- Operand lanes with the encrypted words hidden; KC is public. -/
def hideOperands (o : Operands) : Operands := ⟨0, 0, 0, o.kc⟩

/-- Operand slots with their bits hidden; which slots hold a ciphertext is public. -/
def hideSlots (s : Slots) : Slots := ⟨s.a.map fun _ => false, s.b.map fun _ => false, s.c.map fun _ => false⟩

/-- An event with its encrypted operands hidden; the length of a DATA lane is public. -/
def hideEvent : Event → Event
  | .command w data => .command w (List.replicate data.length false)
  | .wordOp w o => .wordOp w (hideOperands o)
  | .gateRequest b slots => .gateRequest b (hideSlots slots)
  | .microStep => .microStep

/-- A state with every encrypted value hidden: what is left is plaintext (R29, R243). -/
def hideState (s : State) : State :=
  { s with
    H := s.H.map fun _ => Vector.replicate 8 0
    V := s.V.map fun _ => Vector.replicate 8 0
    W := hideFile s.W
    M := hideFile s.M
    data := List.replicate s.data.length false
    response := s.response.map fun r => ⟨r.rc, hidePayload r.payload⟩
    operands := hideOperands s.operands
    D := s.D.map fun _ => 0
    slots := hideSlots s.slots
    gateResult := s.gateResult.map hideGateResult
    pending := s.pending.map hideEvent }

/-- An outcome with every encrypted value hidden. -/
def hideOutcome : Host.Outcome State Fault Refusal → Host.Outcome State Fault Refusal
  | .next s => .next (hideState s)
  | .fault r => .fault r
  | .refused r => .refused r

/-! ### Acceptance -/

/-- R200's table: the modes in which a command is accepted. A gate request or word operator is no command. -/
def acceptedIn (i : Instr) (m : Mode) : Bool :=
  match i with
  | .init => true
  | .load _ => m == .idle
  | .absorb => m == .idle
  | .read _ => m == .idle
  | .status => true
  | .abort => m == .busy
  | .and => true
  | .or => true
  | .xor => true
  | .not => true
  | .mux => true
  | .triv _ => true
  | .xork _ => true
  | .add32 => true
  | .addk32 => true
  | .xor32 => true
  | .rotr _ => true
  | .shr _ => true
  | .ch32 => true
  | .maj32 => true
  | .bsig0 => true
  | .bsig1 => true
  | .ssig0 => true
  | .ssig1 => true
  | .triv32 => true

/-- R200, step 3: LOAD needs a DATA word of 32 bits, ABSORB a full buffer; no other command checks an operand. -/
abbrev OperandsFit (i : Instr) (s : State) : Prop :=
  (∀ idx, i = .load idx → s.data.length = 32) ∧ (i = .absorb → s.LDMASK = 0xFFFF)

/-! ### Outcomes -/

/-- The state an outcome goes on with. -/
def nextState : Host.Outcome State Fault Refusal → Option State
  | .next s => some s
  | .fault _ => none
  | .refused _ => none

/-- A run's oracle answers its first `n` draws with success. -/
abbrev DrawsSucceed (s : State) (n : Nat) : Prop := ∀ d ∈ s.draws.take n, d = Draw.success

end Sys2Proof.Machine
end

