-- ==== Sys2Proof/Certificates/Slice0/Obligations.lean ====
section
/-! DEFINITION. The statements for the provers. Each docstring names the rule of the spec it formalises. -/

open Sys2Proof Sys2Proof.Machine

/-! ### Encodings -/

/-- A few words, written out from R73, R81 and R86 and the tables of 95_test_vectors.md, decode as their rows say. -/
def Obligations.SampleWordsDecodeAsTheirRowsSay : Prop :=
  decode (.cmd32 0x10000000) = .ok .init ∧ decode (.cmd32 0x2000000f) = .ok (.load 15) ∧
  decode (.cmd32 0x40000007) = .ok (.read 7) ∧ decode (.cmd32 0x40000008) = .error .commandIndex ∧
  decode (.cmd32 0x28000000) = .error .commandReserved ∧ decode (.cmd32 0x70000000) = .error .commandOpcode ∧
  decode (.gate8 0x50) = .ok .mux ∧ decode (.gate8 0x61) = .ok (.triv true) ∧ decode (.gate8 0x11) = .error .gateConstant ∧
  decode (.uop16 0x2080) = .ok (.rotr 2) ∧ decode (.uop16 0x2A80) = .ok (.shr 10) ∧ decode (.uop16 0x5800) = .ok .ssig1 ∧
  decode (.uop16 0x2001) = .error .uopReserved

/-- R71, R80, R85: every well-formed instruction is read back from its encoding, every operand at every value. -/
def Obligations.DecodeOfEncodeIsTheInstruction : Prop :=
  ∀ i : Instr, i.wellFormed = true → decode (encode i) = .ok i

/-- The other direction: a word that decodes is the encoding of what it decodes to, and of nothing else. -/
def Obligations.DecodedWordIsItsEncoding : Prop :=
  ∀ (e : Encoded) (i : Instr), decode e = .ok i → encode i = e ∧ i.wellFormed = true

/-- R75: a CMD32 word is legal exactly when it matches a row of the table, and no two rows match the same word; every other
word is answered with ILLEGAL_COMMAND. -/
def Obligations.CommandWordLegalExactlyWhenARowMatches : Prop :=
  (∀ w : BitVec 32, (∃ i, decodeCmd32 w = .ok i) ↔ ∃ r ∈ cmdRows, r.fits w = true) ∧
  (∀ w : BitVec 32, matchCount cmdRows w ≤ 1) ∧
  (∀ (s : State) (w : BitVec 32) (data : List EBit) (es : List Event), s.pending = .command w data :: es →
    (∀ r ∈ cmdRows, r.fits w = false) →
    step s = .next { s with pending := es, data := data, response := some ⟨.illegalCommand, .empty⟩ })

/-- The match and mask rows of R81 and R86 fit exactly the bytes and words that decode, and no two of a table overlap. -/
def Obligations.RequestLegalExactlyWhenARowMatches : Prop :=
  (∀ b : BitVec 8, ((∃ i, decodeGate8 b = .ok i) ↔ ∃ r ∈ gateRows, r.fits b = true) ∧ matchCount gateRows b ≤ 1) ∧
  (∀ w : BitVec 16, ((∃ i, decodeUop16 w = .ok i) ↔ ∃ r ∈ uopRows, r.fits w = true) ∧ matchCount uopRows w ≤ 1)

/-- R83, R88: a reserved GATE8 byte or UOP16 word is refused, and no step is taken; the controller's fixed sequence holds no
reserved word, and no request a circuit records is a reserved byte. -/
def Obligations.ReservedRequestsAreRefused : Prop :=
  (∀ (s : State) (b : BitVec 8) (slots : Slots) (es : List Event), s.pending = .gateRequest b slots :: es →
    (gateOp b = 0 ∨ 8 ≤ (gateOp b).toNat ∨ gateRsv b ≠ 0 ∨ (gateKb b = true ∧ gateOp b ≠ 6 ∧ gateOp b ≠ 7)) →
    step s = .refused (.reservedGate b)) ∧
  (∀ g : Gate, ∃ b, encode g.toInstr = .gate8 b ∧ decodeGate8 b = .ok g.toInstr) ∧
  (∀ (s : State) (w : BitVec 16) (o : Operands) (es : List Event), s.pending = .wordOp w o :: es →
    (uopOp w = 0 ∨ 0x0D ≤ (uopOp w).toNat ∨ uopRsv w ≠ 0 ∨ (uopN w ≠ 0 ∧ uopOp w ≠ 4 ∧ uopOp w ≠ 5)) →
    step s = .refused (.reservedWordOp w)) ∧
  (∀ l ∈ schedLines ++ roundLines ++ ffLines, ∃ i, decodeUop16 l.uop = .ok i)

/-! ### The step -/

/-- R60, R176: the next event's word, decoded, is what the step runs, its operands latched on their lanes; the controller's
turn is a micro-step. That what comes next is the head of `pending` is the model's choice (log entry 2). -/
def Obligations.StepRunsTheDecodedInstruction : Prop :=
  (∀ (s : State) (w : BitVec 32) (data : List EBit) (es : List Event) (i : Instr), s.pending = .command w data :: es →
    decode (.cmd32 w) = .ok i → step s = exec i { s with pending := es, data := data }) ∧
  (∀ (s : State) (w : BitVec 16) (o : Operands) (es : List Event) (i : Instr), s.pending = .wordOp w o :: es →
    decode (.uop16 w) = .ok i → step s = exec i { s with pending := es, operands := o }) ∧
  (∀ (s : State) (b : BitVec 8) (slots : Slots) (es : List Event) (i : Instr), s.pending = .gateRequest b slots :: es →
    decode (.gate8 b) = .ok i → step s = exec i { s with pending := es, slots := slots }) ∧
  (∀ (s : State) (es : List Event), s.pending = .microStep :: es → step s = microStep { s with pending := es }) ∧
  (∀ s : State, s.pending = [] → step s = microStep s)

/-- R234, R207, R92: a command word that matches no row is answered with code 4 in every mode, and changes no state; so are the
cases R207 lists. -/
def Obligations.IllegalCommandChangesNoState : Prop :=
  ∀ (s : State) (w : BitVec 32) (data : List EBit) (es : List Event), s.pending = .command w data :: es →
    ((∀ r ∈ cmdRows, r.fits w = false) ∨ (cmdOp w = 0 ∨ 7 ≤ (cmdOp w).toNat) ∨ cmdRsv w ≠ 0 ∨
      (cmdIdx w ≠ 0 ∧ (cmdOp w = 1 ∨ cmdOp w = 3 ∨ cmdOp w = 5 ∨ cmdOp w = 6)) ∨
      (cmdOp w = 4 ∧ 8 ≤ (cmdIdx w).toNat)) →
    step s = .next { s with pending := es, data := data, response := some ⟨.illegalCommand, .empty⟩ }

/-! ### Gate requests -/

/-- R104 to R108, R110, R113: with its slots filled, a successful request returns the truth table's value, and nothing else changes
but the used draw; one draw also stands for the four requests of an unfused MUX (log entry 11). -/
def Obligations.GateRequestReturnsItsTruthTable : Prop :=
  ∀ (s : State) (a : EBit), s.nextDraw = .success → s.slots.a = some a →
    exec .not s = .next { s with draws := s.draws.tail, gateResult := some (.ok (!a)) } ∧
    exec (.xork false) s = .next { s with draws := s.draws.tail, gateResult := some (.ok a) } ∧
    exec (.xork true) s = .next { s with draws := s.draws.tail, gateResult := some (.ok (!a)) } ∧
    ∀ b : EBit, s.slots.b = some b →
      exec .and s = .next { s with draws := s.draws.tail, gateResult := some (.ok (a && b)) } ∧
      exec .or s = .next { s with draws := s.draws.tail, gateResult := some (.ok (a || b)) } ∧
      exec .xor s = .next { s with draws := s.draws.tail, gateResult := some (.ok (a != b)) } ∧
      ∀ c : EBit, s.slots.c = some c →
        exec .mux s = .next { s with draws := s.draws.tail, gateResult := some (.ok ((a && b) || (!a && c))) }

/-- Whatever its slots hold, a successful gate request returns a ciphertext and changes nothing else but the used draw. With its used
slots filled that is R82 and R100; that a request completes where a slot it uses holds nothing is the model's choice, which no
rule gives (log entry 21), and the value it returns there is free. -/
def Obligations.GateRequestAlwaysReturns : Prop :=
  ∀ (s : State) (g : Gate), s.nextDraw = .success →
    ∃ x, exec g.toInstr s = .next { s with draws := s.draws.tail, gateResult := some (.ok x) }

/-- R12, R80: the server key goes with every gate request: of a gate on any slots, of every word operator, of the controller's
micro-step and of INIT. -/
def Obligations.EveryRequestCarriesTheServerKey : Prop :=
  (∀ (p : Params) (g : Gate) (slots : Slots), ∀ r ∈ (gateCircuit p g slots).reqs, r.key = p.sk) ∧
  (∀ (p : Params) (i : Instr) (o : Operands) (x : Circuit EWord), wordCircuit i p o = some x → ∀ r ∈ x.reqs, r.key = p.sk) ∧
  (∀ (s : State) (rs : List Request), microStepRequests s = .next rs → ∀ r ∈ rs, r.key = s.params.sk) ∧
  (∀ p : Params, ∀ r ∈ initRequests p, r.key = p.sk)

/-- R81: with MUX_FUSED false no gate, word operator or micro-step makes a MUX request, in any realization. -/
def Obligations.UnfusedEngineNeverIssuesMux : Prop :=
  (∀ (p : Params) (g : Gate) (slots : Slots), p.muxFused = false → ∀ r ∈ (gateCircuit p g slots).reqs, r.gate ≠ .mux) ∧
  (∀ (p : Params) (i : Instr) (o : Operands) (x : Circuit EWord), p.muxFused = false → wordCircuit i p o = some x →
    ∀ r ∈ x.reqs, r.gate ≠ .mux) ∧
  (∀ (s : State) (rs : List Request), s.params.muxFused = false → microStepRequests s = .next rs → ∀ r ∈ rs, r.gate ≠ .mux)

/-- R109: a trivial encryption yields its public bit, whatever the slots hold. -/
def Obligations.TrivialEncryptionYieldsItsBit : Prop :=
  ∀ (s : State) (k : Bool), s.nextDraw = .success →
    exec (.triv k) s = .next { s with draws := s.draws.tail, gateResult := some (.ok k) }

/-- R100, R103, R177: every gate request can fail, with either kind; the failure is its result, and it ends the block in
flight as R232 and R233 say. Where no block is in flight nothing else changes (log entry 6). The
same of a request with a used slot empty is the model's choice (log entry 21). -/
def Obligations.EveryGateRequestCanFail : Prop :=
  ∀ (s : State) (g : Gate) (k : FailKind), s.nextDraw = .fail k →
    (s.ST ≠ .busy →
      exec g.toInstr s = .next { s with draws := s.draws.tail, gateResult := some (.fail k) }) ∧
    (s.ST = .busy → ∃ p t n,
      exec g.toInstr s = .next { s with
        draws := s.draws.tail, gateResult := some (.fail k), V := none, W := Vector.replicate 64 none,
        ST := if k = .keyMismatch then .halted else .idle,
        ERR := if k = .keyMismatch then .keyMismatch else .evaluationFailure,
        PHASE := p, T := t, unspec := n })

/-! ### Word operators -/

/-- R131, R133: ADD32 and ADDK32 add modulo 2^32, the carry discarded; nothing but the result and the draw changes. -/
def Obligations.WordAdditionIsModulo32Bits : Prop :=
  ∀ s : State, s.nextDraw = .success →
    (∃ d, exec .add32 s = .next { s with draws := s.draws.tail, D := some d } ∧
      d.toNat = (s.operands.s1.toNat + s.operands.s2.toNat) % 2 ^ 32) ∧
    (∃ d, exec .addk32 s = .next { s with draws := s.draws.tail, D := some d } ∧
      d.toNat = (s.operands.s1.toNat + s.operands.kc.toNat) % 2 ^ 32)

/-- R134, R137, R138: the bitwise operators' values. -/
def Obligations.BitwiseOperatorsHaveTheirFormulas : Prop :=
  ∀ s : State, s.nextDraw = .success →
    exec .xor32 s = .next { s with draws := s.draws.tail, D := some (s.operands.s1 ^^^ s.operands.s2) } ∧
    exec .ch32 s = .next { s with
      draws := s.draws.tail,
      D := some ((s.operands.s1 &&& s.operands.s2) ||| (~~~s.operands.s1 &&& s.operands.s3)) } ∧
    exec .maj32 s = .next { s with
      draws := s.draws.tail,
      D := some ((s.operands.s1 &&& s.operands.s2) ||| (s.operands.s2 &&& s.operands.s3) |||
        (s.operands.s1 &&& s.operands.s3)) }

/-- R135: ROTR relabels, makes no request and cannot fail, whatever the oracle would answer. -/
def Obligations.RotateRelabelsAndCannotFail : Prop :=
  ∀ (s : State) (n : BitVec 5), ∃ d, exec (.rotr n) s = .next { s with D := some d } ∧
    (∀ i < 32, bitAt d i = bitAt s.operands.s1 ((i + 32 - n.toNat) % 32)) ∧
    d = (s.operands.s1 >>> n.toNat) ||| (s.operands.s1 <<< (32 - n.toNat))

/-- R136: SHR shifts zeros in; it makes `n` fill requests, so it draws, and can fail, only for `n` other than 0. -/
def Obligations.ShiftFillsWithZeros : Prop :=
  ∀ s : State,
    exec (.shr 0) s = .next { s with D := some s.operands.s1 } ∧
    (∀ n : BitVec 5, n ≠ 0 → s.nextDraw = .success →
      exec (.shr n) s = .next { s with draws := s.draws.tail, D := some (s.operands.s1 >>> n.toNat) }) ∧
    (∀ n : BitVec 5, (shiftCircuit s.params s.operands.s1 n.toNat).reqs =
      List.replicate n.toNat ⟨.triv false, noSlots, s.params.sk⟩)

/-- R140 to R143: the sigma compositions, in the spec's own rotations and shifts. -/
def Obligations.SigmaCompositionsHaveTheirAmounts : Prop :=
  ∀ s : State, s.nextDraw = .success →
    exec .bsig0 s = .next { s with draws := s.draws.tail, D := some (s.operands.s1.rotateRight 2 ^^^
      s.operands.s1.rotateRight 13 ^^^ s.operands.s1.rotateRight 22) } ∧
    exec .bsig1 s = .next { s with draws := s.draws.tail, D := some (s.operands.s1.rotateRight 6 ^^^
      s.operands.s1.rotateRight 11 ^^^ s.operands.s1.rotateRight 25) } ∧
    exec .ssig0 s = .next { s with draws := s.draws.tail, D := some (s.operands.s1.rotateRight 7 ^^^
      s.operands.s1.rotateRight 18 ^^^ s.operands.s1 >>> 3) } ∧
    exec .ssig1 s = .next { s with draws := s.draws.tail, D := some (s.operands.s1.rotateRight 17 ^^^
      s.operands.s1.rotateRight 19 ^^^ s.operands.s1 >>> 10) }

/-- R139: TRIV32 yields its constant, bit `[i]` by the request `TRIV(k{31-i})`. -/
def Obligations.TrivialWordYieldsItsConstant : Prop :=
  (∀ s : State, s.nextDraw = .success →
    exec .triv32 s = .next { s with draws := s.draws.tail, D := some s.operands.kc }) ∧
  (∀ (p : Params) (k : Word32), (trivialCircuit p k).reqs =
    (List.range 32).map fun i => ⟨.triv (k.getLsbD (31 - i)), noSlots, p.sk⟩)

/-- R130: a failed request of a word operator leaves no result and ends the block in flight; one draw stands for all its requests
(log entry 11), and where no block is in flight nothing else changes (log entry 6). -/
def Obligations.FailedWordOperatorYieldsNoResult : Prop :=
  ∀ (s : State) (k : FailKind) (i : Instr), s.nextDraw = .fail k →
    (i ∈ [Instr.add32, .addk32, .xor32, .ch32, .maj32, .bsig0, .bsig1, .ssig0, .ssig1, .triv32] ∨ ∃ n, i = .shr n ∧ n ≠ 0) →
    (s.ST ≠ .busy → exec i s = .next { s with draws := s.draws.tail, D := none }) ∧
    (s.ST = .busy → ∃ p t n,
      exec i s = .next { s with
        draws := s.draws.tail, D := none, V := none, W := Vector.replicate 64 none,
        ST := if k = .keyMismatch then .halted else .idle,
        ERR := if k = .keyMismatch then .keyMismatch else .evaluationFailure,
        PHASE := p, T := t, unspec := n })

/-- R7, R8, R9, R132, R138: no parameter changes a value, of a MUX or of a word operator (an open realization: log entry 8). -/
def Obligations.RealizationNeverChangesAValue : Prop :=
  ∀ (p q : Params) (o : Operands) (i : Instr) (x y z : EBit),
    (muxCircuit p x y z).out = (muxCircuit q x y z).out ∧ (majCircuit p x y z).out = (majCircuit q x y z).out ∧
    (wordCircuit i p o).map Circuit.out = (wordCircuit i q o).map Circuit.out

/-- R132, R272: the reference ripple adder's requests, fused and unfused. -/
def Obligations.RippleAdderRequestCounts : Prop :=
  ∀ (p : Params) (a b : EWord), p.adder = .ripple →
    countOf (addCircuit p a b) .xor = 63 ∧
    (p.muxFused = true → countOf (addCircuit p a b) .and = 1 ∧ countOf (addCircuit p a b) .mux = 30 ∧
      interactiveCount (addCircuit p a b) = 94) ∧
    (p.muxFused = false → countOf (addCircuit p a b) .not = 30 ∧ countOf (addCircuit p a b) .mux = 0 ∧
      interactiveCount (addCircuit p a b) = 154)

/-- R133, R272: the constant adder's requests depend on the public constant only. R133 fixes them for its reference realization;
that ADDK32 is the reference under every parameter choice, LOOKAHEAD too, is the model's reading (log entry 8). -/
def Obligations.ConstantAdderRequestCounts : Prop :=
  ∀ (p : Params) (x : EWord) (k : Word32),
    countOf (constAddCircuit p x k) .xor = 31 ∧
    countOf (constAddCircuit p x k) .or = ((List.range' 1 30).countP fun i => k.getLsbD i) ∧
    countOf (constAddCircuit p x k) .and + countOf (constAddCircuit p x k) .or = 30 ∧
    countOf (constAddCircuit p x k) (.xork false) + countOf (constAddCircuit p x k) (.xork true) = 32 ∧
    countOf (constAddCircuit p x k) (.triv false) = (if k.getLsbD 0 then 0 else 1) ∧
    countOf (constAddCircuit p x k) (.triv true) = 0 ∧
    interactiveCount (constAddCircuit p x k) = 61

/-- R134, R137, R138, R140 to R143, R272: the interactive requests of the other operators. -/
def Obligations.BitwiseOperatorRequestCounts : Prop :=
  ∀ (p : Params) (a b c : EWord),
    interactiveCount (xorCircuit p a b) = 32 ∧
    interactiveCount (chooseCircuit p a b c) = (if p.muxFused then 32 else 96) ∧
    (p.maj = .andOr → interactiveCount (majorityCircuit p a b c) = 160) ∧
    interactiveCount (bigSigma0Circuit p a) = 64 ∧ interactiveCount (bigSigma1Circuit p a) = 64 ∧
    interactiveCount (smallSigma0Circuit p a) = 64 ∧ countOf (smallSigma0Circuit p a) (.triv false) = 3 ∧
    interactiveCount (smallSigma1Circuit p a) = 64 ∧ countOf (smallSigma1Circuit p a) (.triv false) = 10

/-- R147: the five-stage selection network relabels as ROTR and as SHR, at every amount. -/
def Obligations.SelectionNetworkIsTheRelabeling : Prop :=
  ∀ (p : Params) (w : EWord) (n : BitVec 5),
    selectionNetwork (fun x k => (rotateCircuit x k).out) w n = (rotateCircuit w n.toNat).out ∧
    selectionNetwork (fun x k => (shiftCircuit p x k).out) w n = (shiftCircuit p w n.toNat).out

/-- R146: rotations compose modulo 32, shifts add up and run out at 32, and a rotation is undone by its complement. -/
def Obligations.RelabelingsCompose : Prop :=
  ∀ (p : Params) (w : EWord) (m n : Nat), m < 32 → n < 32 →
    (rotateCircuit (rotateCircuit w m).out n).out = (rotateCircuit w ((m + n) % 32)).out ∧
    (shiftCircuit p (shiftCircuit p w m).out n).out = (if m + n < 32 then (shiftCircuit p w (m + n)).out else 0) ∧
    (rotateCircuit (rotateCircuit w n).out ((32 - n) % 32)).out = w

/-- R144: ADD32 is commutative and associative in value, with identity 0, in every realization. -/
def Obligations.AdditionOrderDoesNotMatter : Prop :=
  ∀ (p : Params) (a b c : EWord),
    (addCircuit p a b).out = (addCircuit p b a).out ∧
    (addCircuit p (addCircuit p a b).out c).out = (addCircuit p a (addCircuit p b c).out).out ∧
    (addCircuit p a 0).out = a

/-! ### Host commands -/

/-- R261: a successful INIT leaves the state of R260 from any state; a failed one leaves HALTED and no chaining value. It makes
256 TRIV requests; that one draw stands for all of them is the model's reading (log entry 11). -/
def Obligations.InitIsResetAsACommand : Prop :=
  (∀ s : State, s.nextDraw = .success → ∃ p t n,
    exec .init s = .next { s with
      H := State.reset.H, V := State.reset.V, W := State.reset.W, M := State.reset.M, LDMASK := State.reset.LDMASK,
      ST := State.reset.ST, ERR := State.reset.ERR, PHASE := p, T := t, unspec := n,
      draws := s.draws.tail, response := some ⟨.none, .empty⟩ }) ∧
  (∀ (s : State) (k : FailKind), s.nextDraw = .fail k → ∃ p t n,
    exec .init s = .next { s with
      H := none, V := none, W := Vector.replicate 64 none, M := Vector.replicate 16 none, LDMASK := 0,
      ST := .halted, ERR := k.code, PHASE := p, T := t, unspec := n,
      draws := s.draws.tail, response := some ⟨k.code, .empty⟩ }) ∧
  ∀ p : Params, (initRequests p).length = 256 ∧ ∀ r ∈ initRequests p, r.gate = .triv false ∨ r.gate = .triv true

/-- R202: LOAD writes `M[i]`, whole and in index order, and sets `LDMASK[i]`; nothing else. -/
def Obligations.LoadWritesOneWordOfTheBuffer : Prop :=
  ∀ (s : State) (i : BitVec 4), s.ST = .idle → s.data.length = 32 → ∃ w : EWord,
    exec (.load i) s = .next { s with
      M := s.M.set i.toNat (some w) i.isLt, LDMASK := s.LDMASK ||| (1#16 <<< i.toNat), response := some ⟨.none, .empty⟩ } ∧
    bitsOfWord w = s.data

/-- R202, R94: two LOADs to different indices leave the same state in either order. -/
def Obligations.LoadsToDifferentWordsCommute : Prop :=
  ∀ (s a b c d : State) (i j : BitVec 4) (x y : List EBit), s.ST = .idle → x.length = 32 → y.length = 32 → i ≠ j →
    exec (.load i) { s with data := x } = .next a → exec (.load j) { a with data := y } = .next b →
    exec (.load j) { s with data := y } = .next c → exec (.load i) { c with data := x } = .next d →
    { b with data := s.data } = { d with data := s.data }

/-- R171: the block-start capture: what ABSORB copies and sets, and that it changes nothing else and makes no draw. -/
def Obligations.AbsorbCapturesTheBlock : Prop :=
  ∀ (s : State) (h : Vector EWord 8) (m : Vector EWord 16), s.ST = .idle → s.LDMASK = 0xFFFF → s.H = some h →
    (∀ i : Fin 16, s.M[i] = some m[i]) →
    ∃ w : Vector (Option EWord) 64,
      exec .absorb s = .next { s with
        W := w, V := some h, ST := .busy, PHASE := .sched, T := 16, response := some ⟨.none, .empty⟩ } ∧
      (∀ i : Fin 16, w[i.val]'(by omega) = some m[i]) ∧ (∀ i : Fin 64, 16 ≤ i.val → w[i] = s.W[i])

/-- R204: READ returns one chaining register and changes nothing. That exec of a READ term with IDX 8 to 15, which no word decodes
to, answers ILLEGAL_COMMAND is the model's choice (log entry 14). -/
def Obligations.ReadReturnsAChainingRegister : Prop :=
  (∀ (s : State) (i : BitVec 4) (h : Vector EWord 8) (hi : i.toNat < 8), s.ST = .idle → s.H = some h →
    exec (.read i) s = .next { s with response := some ⟨.none, .word h[i.toNat]⟩ }) ∧
  (∀ (s : State) (i : BitVec 4), 8 ≤ i.toNat →
    exec (.read i) s = .next { s with response := some ⟨.illegalCommand, .empty⟩ })

/-- R29, R31, R205: STATUS is accepted in every mode, changes no state, and returns the fields of R29, reserved bits 0. -/
def Obligations.StatusWordHasItsFields : Prop :=
  ∀ s : State, ∃ w : Word32,
    exec .status s = .next { s with response := some ⟨.none, .status w⟩ } ∧
    w.extractLsb' 0 2 = (match s.ST with | .idle => 0 | .busy => 1 | .halted => 2) ∧ w.extractLsb' 2 2 = 0 ∧
    w.extractLsb' 4 4 = (match s.ERR with
      | .none => 0 | .malformedInput => 1 | .keyMismatch => 2 | .evaluationFailure => 3 | .illegalCommand => 4
      | .protocol => 5 | .aborted => 6) ∧
    w.getLsbD 8 = decide (s.LDMASK = 0xFFFF) ∧ w.extractLsb' 9 7 = 0 ∧ w.extractLsb' 16 16 = s.LDMASK

/-- R206, R236: ABORT in BUSY drops `V` and `W`, goes to HALTED with ERR 6, and leaves `H`, `M` and LDMASK. -/
def Obligations.AbortDropsTheBlock : Prop :=
  ∀ s : State, s.ST = .busy → ∃ p t n,
    exec .abort s = .next { s with
      V := none, W := Vector.replicate 64 none, ST := .halted, ERR := .aborted, PHASE := p, T := t, unspec := n,
      response := some ⟨.none, .empty⟩ }

/-- R200, R238: decode, then mode, then operands; a refused command changes nothing but its response, and one that passes all
checks is answered with none of the three refusal codes. -/
def Obligations.CommandChecksRunInOrder : Prop :=
  ∀ (s : State) (w : BitVec 32) (data : List EBit) (es : List Event), s.pending = .command w data :: es →
    (∀ r, decodeCmd32 w = .error r →
      step s = .next { s with pending := es, data := data, response := some ⟨.illegalCommand, .empty⟩ }) ∧
    (∀ i, decodeCmd32 w = .ok i → acceptedIn i s.ST = false →
      step s = .next { s with pending := es, data := data, response := some ⟨.protocol, .empty⟩ }) ∧
    (∀ i, decodeCmd32 w = .ok i → acceptedIn i s.ST = true → ¬ OperandsFit i { s with data := data } →
      step s = .next { s with pending := es, data := data, response := some ⟨.malformedInput, .empty⟩ }) ∧
    (∀ i, decodeCmd32 w = .ok i → acceptedIn i s.ST = true → OperandsFit i { s with data := data } → EngineInv s →
      ∃ t r, step s = .next t ∧ t.response = some r ∧ r.rc ∉ [Code.illegalCommand, .protocol, .malformedInput])

/-! ### The controller -/

/-- R172: a schedule micro-step writes `W[t]` by the recurrence, and advances; nothing else changes. -/
def Obligations.ScheduleStepFollowsTheRecurrence : Prop :=
  ∀ (s : State) (es : List Event) (w2 w7 w15 w16 : EWord), s.pending = .microStep :: es → s.ST = .busy →
    s.PHASE = .sched → 16 ≤ s.T.val → s.nextDraw = .success →
    readW s (s.T.val - 2) = some w2 → readW s (s.T.val - 7) = some w7 →
    readW s (s.T.val - 15) = some w15 → readW s (s.T.val - 16) = some w16 →
    step s = .next { s with
      pending := es, draws := s.draws.tail,
      W := s.W.set s.T.val (some (smallSigma1 w2 + w7 + smallSigma0 w15 + w16)) s.T.isLt,
      PHASE := if s.T = 63 then .round else .sched,
      T := if s.T = 63 then 0 else s.T + 1 }

/-- R173, R267: a round micro-step updates the eight working variables at once from their old values. That T stays 63 after the last
round is the model's reading (log entry 9). -/
def Obligations.RoundStepIsTheRoundFunction : Prop :=
  ∀ (s : State) (es : List Event) (a b c d e f g h w : EWord), s.pending = .microStep :: es → s.ST = .busy →
    s.PHASE = .round → s.nextDraw = .success → s.V = some #v[a, b, c, d, e, f, g, h] → s.W[s.T] = some w →
    let t1 := h + bigSigma1 e + choose e f g + kRom[s.T] + w
    let t2 := bigSigma0 a + majority a b c
    step s = .next { s with
      pending := es, draws := s.draws.tail,
      V := some #v[t1 + t2, a, b, c, d + t1, e, f, g],
      PHASE := if s.T = 63 then .ff else .round,
      T := if s.T = 63 then 63 else s.T + 1 }

/-- R175: the feed-forward commits all eight sums at once, clears LDMASK and ends the block. -/
def Obligations.FeedForwardCommitsAllEightWords : Prop :=
  ∀ (s : State) (es : List Event) (h v : Vector EWord 8), s.pending = .microStep :: es → s.ST = .busy →
    s.PHASE = .ff → s.nextDraw = .success → s.H = some h → s.V = some v → ∃ h' p t n,
    step s = .next { s with
      pending := es, draws := s.draws.tail, H := some h', LDMASK := 0, V := none, W := Vector.replicate 64 none,
      ST := .idle, ERR := .none, PHASE := p, T := t, unspec := n } ∧
    ∀ j : Fin 8, h'[j] = h[j] + v[j]

/-- R177, R232, R233: a failed micro-step writes none of its results: the block ends, `H`, `M` and LDMASK as they were. -/
def Obligations.FailedMicroStepEndsTheBlock : Prop :=
  ∀ (s : State) (es : List Event) (k : FailKind), EngineInv s → s.pending = .microStep :: es → s.ST = .busy →
    s.nextDraw = .fail k → ∃ p t n,
    step s = .next { s with
      pending := es, draws := s.draws.tail, V := none, W := Vector.replicate 64 none,
      ST := if k = .keyMismatch then .halted else .idle,
      ERR := if k = .keyMismatch then .keyMismatch else .evaluationFailure,
      PHASE := p, T := t, unspec := n }

/-- R176: when ST is IDLE or HALTED no micro-step is enabled, and the engine only waits (`pending` is the model's input, log
entry 2). -/
def Obligations.EngineWaitsOutsideABlock : Prop :=
  ∀ s : State, s.ST ≠ .busy →
    (s.pending = [] → step s = .next s) ∧
    (∀ es, s.pending = .microStep :: es → step s = .next { s with pending := es })

/-! ### Whole-machine rules -/

/-- R26, R37, R260: the values the spec states for reset, H with the numerals of the IV. -/
def Obligations.ResetLeavesTheStatedValues : Prop :=
  State.reset.H =
    some #v[0x6a09e667, 0xbb67ae85, 0x3c6ef372, 0xa54ff53a, 0x510e527f, 0x9b05688c, 0x1f83d9ab, 0x5be0cd19] ∧
  State.reset.LDMASK = 0 ∧ State.reset.V = none ∧
  (∀ i : Fin 64, State.reset.W[i] = none) ∧ (∀ i : Fin 16, State.reset.M[i] = none) ∧
  State.reset.ST = .idle ∧ State.reset.ERR = .none ∧ statusWord State.reset = 0

/-- R27: the round-constant ROM holds the spec's 64 values, row by row of its table. -/
def Obligations.RoundConstantsAreTheSpecs : Prop :=
  kRom.toList =
    [0x428a2f98, 0x71374491, 0xb5c0fbcf, 0xe9b5dba5, 0x3956c25b, 0x59f111f1, 0x923f82a4, 0xab1c5ed5] ++
    [0xd807aa98, 0x12835b01, 0x243185be, 0x550c7dc3, 0x72be5d74, 0x80deb1fe, 0x9bdc06a7, 0xc19bf174] ++
    [0xe49b69c1, 0xefbe4786, 0x0fc19dc6, 0x240ca1cc, 0x2de92c6f, 0x4a7484aa, 0x5cb0a9dc, 0x76f988da] ++
    [0x983e5152, 0xa831c66d, 0xb00327c8, 0xbf597fc7, 0xc6e00bf3, 0xd5a79147, 0x06ca6351, 0x14292967] ++
    [0x27b70a85, 0x2e1b2138, 0x4d2c6dfc, 0x53380d13, 0x650a7354, 0x766a0abb, 0x81c2c92e, 0x92722c85] ++
    [0xa2bfe8a1, 0xa81a664b, 0xc24b8b70, 0xc76c51a3, 0xd192e819, 0xd6990624, 0xf40e3585, 0x106aa070] ++
    [0x19a4c116, 0x1e376c08, 0x2748774c, 0x34b0bcb5, 0x391c0cb3, 0x4ed8aa4a, 0x5b9cca4f, 0x682e6ff3] ++
    [0x748f82ee, 0x78a5636f, 0x84c87814, 0x8cc70208, 0x90befffa, 0xa4506ceb, 0xbef9a3f7, 0xc67178f2]

/-- The invariant holds at reset. -/
def Obligations.InvariantHoldsAtReset : Prop := EngineInv State.reset

/-- R25, R30, R32, R176: every step keeps the invariant. -/
def Obligations.StepKeepsTheInvariant : Prop :=
  ∀ s t : State, EngineInv s → step s = .next t → EngineInv t

/-- R32, U11, U12, U19: from a state of the invariant no step ends in a model fault, whatever comes next. -/
def Obligations.NoStepFaults : Prop :=
  ∀ (s : State) (r : Fault), EngineInv s → step s ≠ .fault r

/-- R58, R22: `H` changes only by INIT, or by a successful feed-forward, which writes all eight words at once. -/
def Obligations.ChainingValueChangesOnlyByInitAndFeedForward : Prop :=
  ∀ s t : State, step s = .next t → t.H ≠ s.H →
    (∃ data es, s.pending = .command 0x10000000 data :: es) ∨
    ((s.pending = [] ∨ ∃ es, s.pending = .microStep :: es) ∧ s.ST = .busy ∧ s.PHASE = .ff ∧ s.nextDraw = .success ∧
      t.ST = .idle ∧ t.ERR = .none ∧ t.LDMASK = 0 ∧
      ∃ h v, s.H = some h ∧ s.V = some v ∧ t.H = some (feedForward h v))

/-- R242, R201, R232, R236: only INIT leaves HALTED. -/
def Obligations.OnlyInitLeavesHalted : Prop :=
  ∀ s t : State, s.ST = .halted → step s = .next t → t.ST ≠ .halted →
    ∃ data es, s.pending = .command 0x10000000 data :: es

/-- R12, R35: no step changes the parameters. -/
def Obligations.ParametersNeverChange : Prop :=
  ∀ s t : State, step s = .next t → t.params = s.params

/-- R30, R200: a refusal code is never written to ERR, from any state whose ERR holds none. -/
def Obligations.RefusalCodesNeverReachErr : Prop :=
  ∀ s t : State, step s = .next t → s.ERR ∉ [Code.malformedInput, .illegalCommand, .protocol] →
    t.ERR ∉ [Code.malformedInput, .illegalCommand, .protocol]

/-- R243: two states that differ only in encrypted values step alike, and stay alike in everything but encrypted values. -/
def Obligations.NothingPublicDependsOnAnEncryptedValue : Prop :=
  ∀ s s' : State, hideState s = hideState s' → hideOutcome (step s) = hideOutcome (step s')

/-- R170, R176, R181: a block absorbed in IDLE, with the oracle successful, takes 113 micro-steps and commits `C(H, M)`. -/
def Obligations.BlockCommitsTheCompressionFunction : Prop :=
  ∀ (s : State) (data : List EBit) (es : List Event) (h : Vector EWord 8) (m : Vector EWord 16),
    s.pending = .command 0x30000000 data :: (List.replicate 113 .microStep ++ es) → s.ST = .idle → s.LDMASK = 0xFFFF →
    s.H = some h → (∀ i : Fin 16, s.M[i] = some m[i]) → DrawsSucceed s 113 → ∃ p t n,
    core.run 114 s = .next { s with
      pending := es, data := data, draws := s.draws.drop 113, response := some ⟨.none, .empty⟩,
      H := some (compress h m), LDMASK := 0, V := none, W := Vector.replicate 64 none, ST := .idle, ERR := .none,
      PHASE := p, T := t, unspec := n }

/-- R176: and before the 113th micro-step the block is still in flight, its chaining value untouched (R58, R269). -/
def Obligations.ChainingValueUntouchedDuringTheBlock : Prop :=
  ∀ (s : State) (data : List EBit) (es : List Event) (h : Vector EWord 8) (m : Vector EWord 16) (n : Nat),
    s.pending = .command 0x30000000 data :: (List.replicate 113 .microStep ++ es) → s.ST = .idle → s.LDMASK = 0xFFFF →
    s.H = some h → (∀ i : Fin 16, s.M[i] = some m[i]) → DrawsSucceed s 113 → n < 113 →
    ∃ t, core.run (n + 1) s = .next t ∧ t.ST = .busy ∧ t.H = some h ∧ t.M = s.M ∧ t.LDMASK = 0xFFFF ∧ t.ERR = s.ERR

/-- R233, R265: a block that ends in EVALUATION_FAILURE at its `n+1`-th micro-step is retried by ABSORB alone, and the retry
commits what a first-time success commits. -/
def Obligations.RetryCommitsTheSameValue : Prop :=
  ∀ (s : State) (data data' : List EBit) (es : List Event) (h : Vector EWord 8) (m : Vector EWord 16) (n : Nat),
    n < 113 →
    s.pending = .command 0x30000000 data :: (List.replicate (n + 1) .microStep ++
      .command 0x30000000 data' :: (List.replicate 113 .microStep ++ es)) →
    s.draws = List.replicate n .success ++ .fail .evaluationFailure :: List.replicate 113 .success →
    s.ST = .idle → s.LDMASK = 0xFFFF → s.H = some h → (∀ i : Fin 16, s.M[i] = some m[i]) →
    ∃ t, core.run (n + 116) s = .next t ∧ t.H = some (compress h m) ∧ t.ST = .idle ∧ t.ERR = .none ∧ t.LDMASK = 0

/-- R178, R179, R211: with no failure and enough polls (log entry 16) the host macro returns
`C(...C(IV, B0)..., Bn-1)`, the words in order. -/
def Obligations.HostMacroChainsTheBlocks : Prop :=
  ∀ (s : State) (blocks : List (Vector EWord 16)) (fuel : Nat), 114 ≤ fuel → s.pending = [] →
    (∀ d ∈ s.draws, d = Draw.success) →
    sha256Tfhe fuel (blocks.map fun b => b.toList.map bitsOfWord) s = .done (blocks.foldl compress ivRom).toList

/-- R94: WAIT ends at the first STATUS whose STATE is not BUSY, whatever ERR is, and answers that STATUS word; it
changes nothing but the lanes. -/
def Obligations.WaitEndsOutsideBusy : Prop :=
  ∀ (s : State) (fuel : Nat), s.ST ≠ .busy →
    waitBlock (fuel + 1) s =
      .done ({ s with data := [], response := some ⟨.none, .status (statusWord s)⟩ }, statusWord s)

/-- R211, R231: the macro rejects a block of another shape before it issues a command, the state as it was. -/
def Obligations.MalformedBlocksAreRejectedFirst : Prop :=
  ∀ (s : State) (blocks : List (List (List EBit))) (fuel : Nat),
    ((∃ b ∈ blocks, b.length ≠ 16 ∨ ∃ w ∈ b, w.length ≠ 32) → sha256Tfhe fuel blocks s = .error .malformedInput s) ∧
    (∀ bs : List EBit, bs.length % 512 ≠ 0 → blocksOfFlat bs = .error .malformedInput)

/-! ### Host duties -/

/-- R212: the padded message is the message, a 1-bit, the least zero count that makes `L + 1 + k` congruent to 448 modulo 512, and
the 64-bit big-endian bit length (modulo 2^64, log entry 20); a message of `n` bytes has `(n + 8) / 64 + 1` blocks of 16 words of
32 bits, and word `j` of block `b` holds message bytes `64b + 4j` to `64b + 4j + 3`, most significant first. -/
def Obligations.PaddingFollowsTheRule : Prop :=
  (∀ len, (len + 1 + padZeros len) % 512 = 448 ∧ ∀ k < padZeros len, (len + 1 + k) % 512 ≠ 448) ∧
  (∀ m : List Bool, (padBits m).length = m.length + 1 + padZeros m.length + 64 ∧ (padBits m).take m.length = m ∧
    (padBits m)[m.length]? = some true ∧ (∀ i < padZeros m.length, (padBits m)[m.length + 1 + i]? = some false) ∧
    ∀ i < 64, (padBits m)[m.length + 1 + padZeros m.length + i]? = some (m.length.testBit (63 - i))) ∧
  (∀ m : List Byte, (encodeMessage m).length = (m.length + 8) / 64 + 1 ∧ (encodeMessage m).all wellFormedBlock = true ∧
    ∀ (b j q : Nat) (x : Byte), j < 16 → q < 4 → m[64 * b + 4 * j + q]? = some x →
      ∃ block w, (encodeMessage m)[b]? = some block ∧ block[j]? = some w ∧ byteOfWord (wordOfBits w) q = x)

/-- R53, R54, R215: digest bit `k` is `H[k div 32][k mod 32]`, digest byte `j` is byte `j mod 4` of `H[j div 4]`, and a
digest of another length is not decrypted (R215, as log entry 19 reads it). -/
def Obligations.DigestBytesAreBigEndian : Prop :=
  (∀ (h : Vector EWord 8) (k : Fin 256),
    (digestBits h.toList)[k.val]? = some (bitAt (h[k.val / 32]'(by omega)) (k.val % 32))) ∧
  (∀ h : Vector EWord 8, ∃ bs : List Byte, decryptDigest (digestBits h.toList) = some bs ∧ bs.length = 32 ∧
    ∀ j : Fin 32, bs[j.val]? = some (byteOfWord (h[j.val / 4]'(by omega)) (j.val % 4))) ∧
  (∀ bits : List EBit, bits.length ≠ 256 → decryptDigest bits = none)
end

