-- ==== Sys2Proof/Laws/Circuit.lean ====
section
/-! SUPPORT. One law per circuit: the value it yields, whatever the realization, and whether it makes a request. -/

namespace Sys2Proof.Machine

/-! ### Combinators -/

section
variable {α β : Type}
@[simp] theorem wire_out (x : α) : (wire x).out = x := by rfl
@[simp] theorem wire_reqs (x : α) : (wire x).reqs = [] := by rfl
@[simp] theorem sendRequest_out (p : Params) (g : Gate) (s : Slots) : (sendRequest p g s).out = gateResult g s := by rfl
@[simp] theorem sendRequest_reqs (p : Params) (g : Gate) (s : Slots) :
    (sendRequest p g s).reqs = [⟨g, usedSlots g s, p.sk⟩] := by rfl
@[simp] theorem request_reqs (p : Params) (g : Gate) (a b c : EBit) :
    (request p g a b c).reqs = [⟨g, usedSlots g ⟨some a, some b, some c⟩, p.sk⟩] := by rfl
@[simp] theorem feed_out (x : Circuit α) (f : α → Circuit β) : (feed x f).out = (f x.out).out := by rfl
@[simp] theorem feed_reqs (x : Circuit α) (f : α → Circuit β) : (feed x f).reqs = x.reqs ++ (f x.out).reqs := by rfl
end

/-- R101: a request whose used slots are filled has its boolean function. -/
theorem gateResult_filled (g : Gate) (s : Slots) (h : slotsFilled g s = true) :
    gateResult g s = gateValue g (s.a.getD false) (s.b.getD false) (s.c.getD false) := by rw [gateResult, if_pos h]

@[simp] theorem request_out (p : Params) (g : Gate) (a b c : EBit) : (request p g a b c).out = gateValue g a b c := by
  cases g <;> rfl

/-- R108: both realizations of MUX have its value. -/
theorem muxCircuit_out (p : Params) (sel x y : EBit) : (muxCircuit p sel x y).out = if sel then x else y := by
  cases h : p.muxFused <;> cases sel <;> cases x <;> cases y <;>
    simp [muxCircuit, muxSlots, h, gateResult, slotsFilled, gateValue]

/-- R138: every realization of the majority has its truth table. -/
theorem majCircuit_out (p : Params) (a b c : EBit) : (majCircuit p a b c).out = majValue a b c := by
  cases h : p.maj <;> cases a <;> cases b <;> cases c <;> simp [majCircuit, h, gateValue, majValue, muxCircuit_out]

theorem muxSlots_reqs_ne (p : Params) (s : Slots) : (muxSlots p s).reqs ≠ [] := by
  cases h : p.muxFused <;> simp [muxSlots, h]

theorem muxCircuit_reqs_ne (p : Params) (sel x y : EBit) : (muxCircuit p sel x y).reqs ≠ [] := muxSlots_reqs_ne _ _

theorem gateCircuit_reqs_ne (p : Params) (g : Gate) (s : Slots) : (gateCircuit p g s).reqs ≠ [] := by
  cases g
  case mux => exact muxSlots_reqs_ne p s
  all_goals simp [gateCircuit]

theorem openRequests_ne (p : Params) (operands : Nat → EBit × EBit × EBit) (j : Nat) (g : Gate) (gs : List Gate) :
    openRequests p operands j (g :: gs) ≠ [] := by
  simp [openRequests, gateCircuit_reqs_ne]

theorem majCircuit_reqs_ne (p : Params) (a b c : EBit) : (majCircuit p a b c).reqs ≠ [] := by
  cases h : p.maj <;> simp [majCircuit, h, openRequests_ne]

/-! ### Words bit by bit -/

theorem gatherBits_getLsbD (f : Nat → Circuit EBit) (n i : Nat) (hn : n ≤ 32) (hi : i < n) :
    (gatherBits f n).out.getLsbD i = (f (n - 1 - i)).out := by
  induction n generalizing i with
  | zero => omega
  | succ n ih =>
    simp only [gatherBits, feed_out, wire_out, BitVec.getLsbD_shiftConcat]
    cases i with
    | zero => simp
    | succ i =>
      have : n - 1 - i = n + 1 - 1 - (i + 1) := by omega
      have h32 : i + 1 < 32 := by omega
      simp [ih i (by omega) (by omega), this, h32]

/-- R130: bit `[i]` of a bitwise operator's result is its circuit's result at position `i`. -/
theorem eachBit_bitAt (f : Nat → Circuit EBit) (i : Nat) (hi : i < 32) : bitAt (eachBit f).out i = (f i).out := by
  have h := gatherBits_getLsbD f 32 (31 - i) (by omega) (by omega)
  have e : 32 - 1 - (31 - i) = i := by omega
  rw [e] at h
  simp [bitAt, eachBit, BitVec.getMsbD, hi, h]

theorem eachBit_getLsbD (f : Nat → Circuit EBit) (i : Nat) (hi : i < 32) :
    (eachBit f).out.getLsbD i = (f (31 - i)).out :=
  gatherBits_getLsbD f 32 i (by omega) hi

theorem gatherBits_reqs_ne (f : Nat → Circuit EBit) (n : Nat) (h : (f n).reqs ≠ []) : (gatherBits f (n + 1)).reqs ≠ [] := by
  simp [gatherBits, h]

theorem eachBit_reqs_ne (f : Nat → Circuit EBit) (h : (f 31).reqs ≠ []) : (eachBit f).reqs ≠ [] :=
  gatherBits_reqs_ne f 31 h

/-! ### Bitwise operators -/

/-- R134. -/
theorem xorCircuit_out (p : Params) (a b : EWord) : (xorCircuit p a b).out = a ^^^ b := by
  ext i hi
  rw [← BitVec.getLsbD_eq_getElem, ← BitVec.getLsbD_eq_getElem, xorCircuit, eachBit_getLsbD _ _ hi]
  have e : 32 - 1 - (31 - i) = i := by omega
  have h2 : 31 - i < 32 := by omega
  simp [bitAt, BitVec.getMsbD, gateValue, e, h2]

/-- R137. -/
theorem chooseCircuit_out (p : Params) (e f g : EWord) : (chooseCircuit p e f g).out = choose e f g := by
  ext i hi
  rw [← BitVec.getLsbD_eq_getElem, ← BitVec.getLsbD_eq_getElem, chooseCircuit, eachBit_getLsbD _ _ hi, muxCircuit_out]
  have e' : 32 - 1 - (31 - i) = i := by omega
  have h2 : 31 - i < 32 := by omega
  simp only [bitAt, BitVec.getMsbD, e', h2, choose]
  cases h : e.getLsbD i <;> simp [hi, BitVec.getLsbD_eq_getElem]
  all_goals simp_all [BitVec.getLsbD_eq_getElem]

/-- R138. -/
theorem majorityCircuit_out (p : Params) (a b c : EWord) : (majorityCircuit p a b c).out = majority a b c := by
  ext i hi
  rw [← BitVec.getLsbD_eq_getElem, ← BitVec.getLsbD_eq_getElem, majorityCircuit, eachBit_getLsbD _ _ hi, majCircuit_out]
  have e' : 32 - 1 - (31 - i) = i := by omega
  have h2 : 31 - i < 32 := by omega
  simp [bitAt, BitVec.getMsbD, e', h2, majority, majValue]

/-- R139. -/
theorem trivialCircuit_out (p : Params) (k : Word32) : (trivialCircuit p k).out = k := by
  ext i hi
  rw [← BitVec.getLsbD_eq_getElem, ← BitVec.getLsbD_eq_getElem, trivialCircuit, eachBit_getLsbD _ _ hi]
  have e : 31 - (31 - i) = i := by omega
  simp [gateValue, e]

/-! ### Rotate and shift -/

/-- R135. -/
theorem rotateCircuit_bitAt (w : EWord) (n i : Nat) (hi : i < 32) :
    bitAt (rotateCircuit w n).out i = bitAt w ((i + (32 - n % 32)) % 32) := by
  rw [rotateCircuit, eachBit_bitAt _ _ hi, wire_out]

/-- R136. -/
theorem shiftCircuit_bitAt (p : Params) (w : EWord) (n i : Nat) (hi : i < 32) :
    bitAt (shiftCircuit p w n).out i = if i < n then false else bitAt w (i - n) := by
  rw [shiftCircuit, eachBit_bitAt _ _ hi]
  split <;> simp [gateValue]

/-- R135: the value of a rotation. -/
theorem rotateCircuit_out (w : EWord) (n : Nat) (hn : n < 32) : (rotateCircuit w n).out = rotateRight w n := by
  ext i hi
  rw [← BitVec.getLsbD_eq_getElem, ← BitVec.getLsbD_eq_getElem, rotateCircuit, eachBit_getLsbD _ _ hi, wire_out]
  simp only [rotateRight, bitAt, BitVec.getMsbD, BitVec.getLsbD_or, BitVec.getLsbD_ushiftRight, BitVec.getLsbD_shiftLeft]
  have h1 : (31 - i + (32 - n % 32)) % 32 < 32 := Nat.mod_lt _ (by omega)
  by_cases h : i + n < 32
  · have e : 32 - 1 - (31 - i + (32 - n % 32)) % 32 = n + i := by omega
    have h3 : ¬ 32 - n ≤ i := by omega
    simp [h1, e, show i < 32 - n by omega]
  · have e : 32 - 1 - (31 - i + (32 - n % 32)) % 32 = i - (32 - n) := by omega
    have h3 : w.getLsbD (n + i) = false := BitVec.getLsbD_of_ge _ _ (by omega)
    simp [h1, e, h3, hi, show ¬ i < 32 - n by omega]

/-- R136: the value of a shift. -/
theorem shiftCircuit_out (p : Params) (w : EWord) (n : Nat) : (shiftCircuit p w n).out = w >>> n := by
  ext i hi
  rw [← BitVec.getLsbD_eq_getElem, ← BitVec.getLsbD_eq_getElem, shiftCircuit, eachBit_getLsbD _ _ hi]
  by_cases h : 31 - i < n
  · have : w.getLsbD (n + i) = false := BitVec.getLsbD_of_ge _ _ (by omega)
    simp [h, gateValue, this]
  · have e : 32 - 1 - (31 - i - n) = n + i := by omega
    have h2 : 31 - i - n < 32 := by omega
    simp [h, bitAt, BitVec.getMsbD, e, h2]

/-! ### Addition -/

theorem setWeight_getLsbD (w : EWord) (p : Nat) (x : EBit) (i : Nat) (hp : p < 32) (hw : w.getLsbD p = false) :
    (setWeight w p x).getLsbD i = if i = p then x else w.getLsbD i := by
  simp only [setWeight, BitVec.getLsbD_or, BitVec.getLsbD_shiftLeft]
  by_cases h : i = p
  · subst h
    rw [hw, if_pos rfl]
    cases x <;> simp [hp]
  · by_cases h2 : i < p
    · simp [h, h2]
    · have : i - p ≠ 0 := by omega
      cases x <;> simp [h, h2]
      intro _; omega

/-- What the two adders keep while they run: the sum bits so far, and the carry. -/
structure SumTo (a b : EWord) (n : Nat) (sc : EWord × EBit) : Prop where
  low : ∀ i ≤ n, sc.1.getLsbD i = (a + b).getLsbD i
  high : ∀ i, n < i → sc.1.getLsbD i = false
  carry : n < 31 → sc.2 = BitVec.carry (n + 1) a b false

theorem SumTo.first (a b : EWord) (c : EBit) (hc : c = (weightAt a 0 && weightAt b 0)) :
    SumTo a b 0 (setWeight 0 0 (weightAt a 0 ^^ weightAt b 0), c) := by
  refine ⟨fun i hi => ?_, fun i hi => ?_, fun _ => ?_⟩
  · have : i = 0 := by omega
    subst this
    rw [setWeight_getLsbD _ _ _ _ (by omega) (by simp), if_pos rfl, BitVec.getLsbD_add (by omega), BitVec.carry_zero]
    simp [weightAt]
  · rw [setWeight_getLsbD _ _ _ _ (by omega) (by simp), if_neg (by omega)]; simp
  · simp [hc, weightAt, BitVec.carry_succ, BitVec.carry_zero, Bool.atLeastTwo]

theorem SumTo.next (a b : EWord) (n : Nat) (hn : n + 1 < 32) (sc : EWord × EBit) (h : SumTo a b n sc) (c : EBit)
    (hc : n + 1 < 31 → c = (weightAt a (n + 1)).atLeastTwo (weightAt b (n + 1)) sc.2) :
    SumTo a b (n + 1) (setWeight sc.1 (n + 1) (weightAt a (n + 1) ^^ weightAt b (n + 1) ^^ sc.2), c) := by
  have hs := h.high (n + 1) (by omega)
  have hk := h.carry (by omega)
  refine ⟨fun i hi => ?_, fun i hi => ?_, fun h31 => ?_⟩
  · rw [setWeight_getLsbD _ _ _ _ hn hs]
    by_cases e : i = n + 1
    · subst e; simp [weightAt, BitVec.getLsbD_add hn, hk]
    · rw [if_neg e]; exact h.low i (by omega)
  · rw [setWeight_getLsbD _ _ _ _ hn hs, if_neg (by omega)]; exact h.high i (by omega)
  · rw [BitVec.carry_succ (n + 1), ← hk]; exact hc h31

theorem SumTo.done (a b : EWord) (sc : EWord × EBit) (h : SumTo a b 31 sc) : sc.1 = a + b := by
  ext i hi
  rw [← BitVec.getLsbD_eq_getElem, ← BitVec.getLsbD_eq_getElem]
  exact h.low i (by omega)

theorem rippleTo_sum (p : Params) (a b : EWord) (n : Nat) (hn : n < 32) : SumTo a b n (rippleTo p a b n).out := by
  induction n with
  | zero => exact SumTo.first a b _ rfl
  | succ n ih =>
    have step := SumTo.next a b n hn _ (ih (by omega))
    simp only [rippleTo, feed_out, request_out, gateValue]
    split
    · refine step _ fun _ => ?_
      rw [muxCircuit_out]
      cases weightAt a (n + 1) <;> cases weightAt b (n + 1) <;> cases (rippleTo p a b n).out.2 <;> rfl
    · exact step _ fun h => absurd h ‹_›

/-- R131, R132: every realization of the adder adds modulo 2^32. -/
theorem addCircuit_out (p : Params) (a b : EWord) : (addCircuit p a b).out = a + b := by
  cases h : p.adder
  · simpa [addCircuit, h] using SumTo.done a b _ (rippleTo_sum p a b 31 (by omega))
  · simp [addCircuit, h]

theorem constAddTo_sum (p : Params) (x : EWord) (k : Word32) (n : Nat) (hn : n < 32) : SumTo x k n (constAddTo p x k n).out := by
  induction n with
  | zero =>
    refine SumTo.first x k _ ?_
    simp only [weightAt]
    cases h : k.getLsbD 0 <;> simp only [Bool.and_true, Bool.and_false, if_true, wire_out, Bool.false_eq_true, if_false, request_out, gateValue]
  | succ n ih =>
    have step := SumTo.next x k n hn _ (ih (by omega))
    simp only [constAddTo, feed_out, request_out, gateValue]
    have e : (weightAt x (n + 1) ^^ (constAddTo p x k n).out.2 ^^ k.getLsbD (n + 1)) =
        (weightAt x (n + 1) ^^ weightAt k (n + 1) ^^ (constAddTo p x k n).out.2) := by
      simp only [weightAt]
      cases x.getLsbD (n + 1) <;> cases k.getLsbD (n + 1) <;> cases (constAddTo p x k n).out.2 <;> rfl
    split
    · rw [e]
      refine step _ fun _ => ?_
      simp only [weightAt, request_out]
      cases x.getLsbD (n + 1) <;> cases k.getLsbD (n + 1) <;> cases (constAddTo p x k n).out.2 <;> rfl
    · rw [e]; exact step _ fun h => absurd h ‹_›

/-- R133: the constant adder adds modulo 2^32. -/
theorem constAddCircuit_out (p : Params) (x : EWord) (k : Word32) : (constAddCircuit p x k).out = x + k := by
  rw [constAddCircuit, feed_out, wire_out]
  exact SumTo.done x k _ (constAddTo_sum p x k 31 (by omega))

/-! ### The sigma compositions -/

theorem xor3Circuit_out (p : Params) (x y z : Circuit EWord) : (xor3Circuit p x y z).out = x.out ^^^ y.out ^^^ z.out := by
  simp [xor3Circuit, xorCircuit_out]

/-- R140. -/
theorem bigSigma0Circuit_out (p : Params) (x : EWord) : (bigSigma0Circuit p x).out = bigSigma0 x := by
  simp [bigSigma0Circuit, bigSigma0, xor3Circuit_out, rotateCircuit_out]

/-- R141. -/
theorem bigSigma1Circuit_out (p : Params) (x : EWord) : (bigSigma1Circuit p x).out = bigSigma1 x := by
  simp [bigSigma1Circuit, bigSigma1, xor3Circuit_out, rotateCircuit_out]

/-- R142. -/
theorem smallSigma0Circuit_out (p : Params) (x : EWord) : (smallSigma0Circuit p x).out = smallSigma0 x := by
  simp [smallSigma0Circuit, smallSigma0, xor3Circuit_out, rotateCircuit_out, shiftCircuit_out]

/-- R143. -/
theorem smallSigma1Circuit_out (p : Params) (x : EWord) : (smallSigma1Circuit p x).out = smallSigma1 x := by
  simp [smallSigma1Circuit, smallSigma1, xor3Circuit_out, rotateCircuit_out, shiftCircuit_out]

/-! ### Who makes a request (R103) -/

theorem makesRequest_of_ne {α : Type} (x : Circuit α) (h : x.reqs ≠ []) : makesRequest x = true := by
  simp [makesRequest, h]

theorem addCircuit_makesRequest (p : Params) (a b : EWord) : makesRequest (addCircuit p a b) = true := by
  apply makesRequest_of_ne
  cases h : p.adder <;> simp [addCircuit, h, rippleTo, openRequests_ne]

theorem constAddCircuit_makesRequest (p : Params) (x : EWord) (k : Word32) : makesRequest (constAddCircuit p x k) = true := by
  apply makesRequest_of_ne
  simp [constAddCircuit, constAddTo]

theorem xorCircuit_reqs_ne (p : Params) (a b : EWord) : (xorCircuit p a b).reqs ≠ [] := eachBit_reqs_ne _ (by simp)

theorem xorCircuit_makesRequest (p : Params) (a b : EWord) : makesRequest (xorCircuit p a b) = true :=
  makesRequest_of_ne _ (xorCircuit_reqs_ne p a b)

theorem chooseCircuit_makesRequest (p : Params) (e f g : EWord) : makesRequest (chooseCircuit p e f g) = true :=
  makesRequest_of_ne _ (eachBit_reqs_ne _ (muxCircuit_reqs_ne p _ _ _))

theorem majorityCircuit_makesRequest (p : Params) (a b c : EWord) : makesRequest (majorityCircuit p a b c) = true :=
  makesRequest_of_ne _ (eachBit_reqs_ne _ (majCircuit_reqs_ne p _ _ _))

theorem trivialCircuit_makesRequest (p : Params) (k : Word32) : makesRequest (trivialCircuit p k) = true :=
  makesRequest_of_ne _ (eachBit_reqs_ne _ (by simp))

theorem xor3Circuit_makesRequest (p : Params) (x y z : Circuit EWord) : makesRequest (xor3Circuit p x y z) = true :=
  makesRequest_of_ne _ (by simp [xor3Circuit, xorCircuit_reqs_ne])

theorem bigSigma0Circuit_makesRequest (p : Params) (x : EWord) : makesRequest (bigSigma0Circuit p x) = true := xor3Circuit_makesRequest _ _ _ _

theorem bigSigma1Circuit_makesRequest (p : Params) (x : EWord) : makesRequest (bigSigma1Circuit p x) = true := xor3Circuit_makesRequest _ _ _ _

theorem smallSigma0Circuit_makesRequest (p : Params) (x : EWord) : makesRequest (smallSigma0Circuit p x) = true :=
  xor3Circuit_makesRequest _ _ _ _

theorem smallSigma1Circuit_makesRequest (p : Params) (x : EWord) : makesRequest (smallSigma1Circuit p x) = true :=
  xor3Circuit_makesRequest _ _ _ _

theorem gatherBits_wire_reqs (f : Nat → EBit) (n : Nat) : (gatherBits (fun i => wire (f i)) n).reqs = [] := by
  induction n with
  | zero => rfl
  | succ n ih => simp [gatherBits, ih]

/-- R135: a rotation makes no request. -/
theorem rotateCircuit_reqs (w : EWord) (n : Nat) : (rotateCircuit w n).reqs = [] := gatherBits_wire_reqs _ 32

end Sys2Proof.Machine
end

