-- ==== Sys2Proof/Laws/Decode.lean ====
section
/-! SUPPORT. Words as their fields: how a word splits, and what a match and mask row says field by field. -/

namespace Sys2Proof

/-- A word of three fields is their concatenation. -/
theorem three_fields {a b c : Nat} (w : BitVec (a + b + c)) :
    w = w.extractLsb' (b + c) a ++ w.extractLsb' c b ++ w.extractLsb' 0 c := by
  apply BitVec.eq_of_getLsbD_eq
  intro i hi
  simp only [BitVec.getLsbD_append, BitVec.getLsbD_extractLsb']
  by_cases h1 : i < c
  · simp [h1]
  · by_cases h2 : i - c < b
    · simp only [h1, h2, decide_true, decide_false, Bool.true_and, ite_true, if_false]
      congr 1
      omega
    · simp only [h1, h2, show i - c - b < a by omega, decide_true, decide_false, Bool.true_and, if_false]
      congr 1
      omega

theorem cmd_fields (w : BitVec 32) : w = cmdOp w ++ cmdRsv w ++ cmdIdx w := three_fields (a := 4) (b := 24) (c := 4) w

theorem gate_fields (b : BitVec 8) : b = gateOp b ++ gateRsv b ++ b.extractLsb' 0 1 :=
  three_fields (a := 4) (b := 3) (c := 1) b

theorem uop_fields (w : BitVec 16) : w = uopOp w ++ uopN w ++ uopRsv w := three_fields (a := 5) (b := 5) (c := 6) w

/-- Two concatenations are equal exactly when their parts are. -/
theorem append_eq_append {a b : Nat} (x x' : BitVec a) (y y' : BitVec b) : x ++ y = x' ++ y' ↔ x = x' ∧ y = y' := by
  refine ⟨fun h => ⟨?_, ?_⟩, fun h => by rw [h.1, h.2]⟩
  · apply BitVec.eq_of_getLsbD_eq
    intro i hi
    have := congrArg (fun v => v.getLsbD (i + b)) h
    simpa [BitVec.getLsbD_append] using this
  · apply BitVec.eq_of_getLsbD_eq
    intro i hi
    have := congrArg (fun v => v.getLsbD i) h
    simpa [BitVec.getLsbD_append, hi] using this

/-- A match and mask row, field by field. -/
theorem Row.fits_fields {a b c : Nat} (x px mx : BitVec a) (y py my : BitVec b) (z pz mz : BitVec c) :
    Row.fits ⟨px ++ py ++ pz, mx ++ my ++ mz⟩ (x ++ y ++ z) = true ↔ x &&& mx = px ∧ y &&& my = py ∧ z &&& mz = pz := by
  simp [Row.fits, append_eq_append, and_assoc]

end Sys2Proof
end

