-- ==== Sys2Proof/Laws/State.lean ====
section
/-! SUPPORT. What each named update of the state leaves in each field, so that no proof unfolds a record update. -/

namespace Sys2Proof.Machine

section
variable (s : State) (rc : Code) (p : Payload)
@[simp] theorem State.respond_H : (s.respond rc p).H = s.H := rfl
@[simp] theorem State.respond_V : (s.respond rc p).V = s.V := rfl
@[simp] theorem State.respond_W : (s.respond rc p).W = s.W := rfl
@[simp] theorem State.respond_M : (s.respond rc p).M = s.M := rfl
@[simp] theorem State.respond_LDMASK : (s.respond rc p).LDMASK = s.LDMASK := rfl
@[simp] theorem State.respond_ST : (s.respond rc p).ST = s.ST := rfl
@[simp] theorem State.respond_PHASE : (s.respond rc p).PHASE = s.PHASE := rfl
@[simp] theorem State.respond_T : (s.respond rc p).T = s.T := rfl
@[simp] theorem State.respond_ERR : (s.respond rc p).ERR = s.ERR := rfl
@[simp] theorem State.respond_data : (s.respond rc p).data = s.data := rfl
@[simp] theorem State.respond_response : (s.respond rc p).response = some ⟨rc, p⟩ := rfl
@[simp] theorem State.respond_operands : (s.respond rc p).operands = s.operands := rfl
@[simp] theorem State.respond_D : (s.respond rc p).D = s.D := rfl
@[simp] theorem State.respond_slots : (s.respond rc p).slots = s.slots := rfl
@[simp] theorem State.respond_gateResult : (s.respond rc p).gateResult = s.gateResult := rfl
@[simp] theorem State.respond_params : (s.respond rc p).params = s.params := rfl
@[simp] theorem State.respond_pending : (s.respond rc p).pending = s.pending := rfl
@[simp] theorem State.respond_draws : (s.respond rc p).draws = s.draws := rfl
@[simp] theorem State.respond_unspec : (s.respond rc p).unspec = s.unspec := rfl
end

section
variable (s : State)
@[simp] theorem State.answerIllegal_H : (s.answerIllegal).H = s.H := rfl
@[simp] theorem State.answerIllegal_V : (s.answerIllegal).V = s.V := rfl
@[simp] theorem State.answerIllegal_W : (s.answerIllegal).W = s.W := rfl
@[simp] theorem State.answerIllegal_M : (s.answerIllegal).M = s.M := rfl
@[simp] theorem State.answerIllegal_LDMASK : (s.answerIllegal).LDMASK = s.LDMASK := rfl
@[simp] theorem State.answerIllegal_ST : (s.answerIllegal).ST = s.ST := rfl
@[simp] theorem State.answerIllegal_PHASE : (s.answerIllegal).PHASE = s.PHASE := rfl
@[simp] theorem State.answerIllegal_T : (s.answerIllegal).T = s.T := rfl
@[simp] theorem State.answerIllegal_ERR : (s.answerIllegal).ERR = s.ERR := rfl
@[simp] theorem State.answerIllegal_data : (s.answerIllegal).data = s.data := rfl
@[simp] theorem State.answerIllegal_response : (s.answerIllegal).response = some ⟨.illegalCommand, .empty⟩ := rfl
@[simp] theorem State.answerIllegal_operands : (s.answerIllegal).operands = s.operands := rfl
@[simp] theorem State.answerIllegal_D : (s.answerIllegal).D = s.D := rfl
@[simp] theorem State.answerIllegal_slots : (s.answerIllegal).slots = s.slots := rfl
@[simp] theorem State.answerIllegal_gateResult : (s.answerIllegal).gateResult = s.gateResult := rfl
@[simp] theorem State.answerIllegal_params : (s.answerIllegal).params = s.params := rfl
@[simp] theorem State.answerIllegal_pending : (s.answerIllegal).pending = s.pending := rfl
@[simp] theorem State.answerIllegal_draws : (s.answerIllegal).draws = s.draws := rfl
@[simp] theorem State.answerIllegal_unspec : (s.answerIllegal).unspec = s.unspec := rfl
end

section
variable (s : State)
@[simp] theorem State.dropDraw_H : (s.dropDraw).H = s.H := rfl
@[simp] theorem State.dropDraw_V : (s.dropDraw).V = s.V := rfl
@[simp] theorem State.dropDraw_W : (s.dropDraw).W = s.W := rfl
@[simp] theorem State.dropDraw_M : (s.dropDraw).M = s.M := rfl
@[simp] theorem State.dropDraw_LDMASK : (s.dropDraw).LDMASK = s.LDMASK := rfl
@[simp] theorem State.dropDraw_ST : (s.dropDraw).ST = s.ST := rfl
@[simp] theorem State.dropDraw_PHASE : (s.dropDraw).PHASE = s.PHASE := rfl
@[simp] theorem State.dropDraw_T : (s.dropDraw).T = s.T := rfl
@[simp] theorem State.dropDraw_ERR : (s.dropDraw).ERR = s.ERR := rfl
@[simp] theorem State.dropDraw_data : (s.dropDraw).data = s.data := rfl
@[simp] theorem State.dropDraw_response : (s.dropDraw).response = s.response := rfl
@[simp] theorem State.dropDraw_operands : (s.dropDraw).operands = s.operands := rfl
@[simp] theorem State.dropDraw_D : (s.dropDraw).D = s.D := rfl
@[simp] theorem State.dropDraw_slots : (s.dropDraw).slots = s.slots := rfl
@[simp] theorem State.dropDraw_gateResult : (s.dropDraw).gateResult = s.gateResult := rfl
@[simp] theorem State.dropDraw_params : (s.dropDraw).params = s.params := rfl
@[simp] theorem State.dropDraw_pending : (s.dropDraw).pending = s.pending := rfl
@[simp] theorem State.dropDraw_draws : (s.dropDraw).draws = s.draws.tail := rfl
@[simp] theorem State.dropDraw_unspec : (s.dropDraw).unspec = s.unspec := rfl
end

section
variable (s : State)
@[simp] theorem State.forgetSequencer_H : (s.forgetSequencer).H = s.H := rfl
@[simp] theorem State.forgetSequencer_V : (s.forgetSequencer).V = s.V := rfl
@[simp] theorem State.forgetSequencer_W : (s.forgetSequencer).W = s.W := rfl
@[simp] theorem State.forgetSequencer_M : (s.forgetSequencer).M = s.M := rfl
@[simp] theorem State.forgetSequencer_LDMASK : (s.forgetSequencer).LDMASK = s.LDMASK := rfl
@[simp] theorem State.forgetSequencer_ST : (s.forgetSequencer).ST = s.ST := rfl
@[simp] theorem State.forgetSequencer_PHASE : (s.forgetSequencer).PHASE = Config.unspecPhase s.unspec := rfl
@[simp] theorem State.forgetSequencer_T : (s.forgetSequencer).T = Config.unspecT s.unspec := rfl
@[simp] theorem State.forgetSequencer_ERR : (s.forgetSequencer).ERR = s.ERR := rfl
@[simp] theorem State.forgetSequencer_data : (s.forgetSequencer).data = s.data := rfl
@[simp] theorem State.forgetSequencer_response : (s.forgetSequencer).response = s.response := rfl
@[simp] theorem State.forgetSequencer_operands : (s.forgetSequencer).operands = s.operands := rfl
@[simp] theorem State.forgetSequencer_D : (s.forgetSequencer).D = s.D := rfl
@[simp] theorem State.forgetSequencer_slots : (s.forgetSequencer).slots = s.slots := rfl
@[simp] theorem State.forgetSequencer_gateResult : (s.forgetSequencer).gateResult = s.gateResult := rfl
@[simp] theorem State.forgetSequencer_params : (s.forgetSequencer).params = s.params := rfl
@[simp] theorem State.forgetSequencer_pending : (s.forgetSequencer).pending = s.pending := rfl
@[simp] theorem State.forgetSequencer_draws : (s.forgetSequencer).draws = s.draws := rfl
@[simp] theorem State.forgetSequencer_unspec : (s.forgetSequencer).unspec = s.unspec + 1 := rfl
end

section
variable (s : State) (m : Mode) (c : Code)
@[simp] theorem State.endBlock_H : (s.endBlock m c).H = s.H := rfl
@[simp] theorem State.endBlock_V : (s.endBlock m c).V = none := rfl
@[simp] theorem State.endBlock_W : (s.endBlock m c).W = unwrittenFile 64 := rfl
@[simp] theorem State.endBlock_M : (s.endBlock m c).M = s.M := rfl
@[simp] theorem State.endBlock_LDMASK : (s.endBlock m c).LDMASK = s.LDMASK := rfl
@[simp] theorem State.endBlock_ST : (s.endBlock m c).ST = m := rfl
@[simp] theorem State.endBlock_PHASE : (s.endBlock m c).PHASE = Config.unspecPhase s.unspec := rfl
@[simp] theorem State.endBlock_T : (s.endBlock m c).T = Config.unspecT s.unspec := rfl
@[simp] theorem State.endBlock_ERR : (s.endBlock m c).ERR = c := rfl
@[simp] theorem State.endBlock_data : (s.endBlock m c).data = s.data := rfl
@[simp] theorem State.endBlock_response : (s.endBlock m c).response = s.response := rfl
@[simp] theorem State.endBlock_operands : (s.endBlock m c).operands = s.operands := rfl
@[simp] theorem State.endBlock_D : (s.endBlock m c).D = s.D := rfl
@[simp] theorem State.endBlock_slots : (s.endBlock m c).slots = s.slots := rfl
@[simp] theorem State.endBlock_gateResult : (s.endBlock m c).gateResult = s.gateResult := rfl
@[simp] theorem State.endBlock_params : (s.endBlock m c).params = s.params := rfl
@[simp] theorem State.endBlock_pending : (s.endBlock m c).pending = s.pending := rfl
@[simp] theorem State.endBlock_draws : (s.endBlock m c).draws = s.draws := rfl
@[simp] theorem State.endBlock_unspec : (s.endBlock m c).unspec = s.unspec + 1 := rfl
end

section
variable (s : State) (k : FailKind)
@[simp] theorem State.failBlock_H : (s.failBlock k).H = s.H := rfl
@[simp] theorem State.failBlock_V : (s.failBlock k).V = none := rfl
@[simp] theorem State.failBlock_W : (s.failBlock k).W = unwrittenFile 64 := rfl
@[simp] theorem State.failBlock_M : (s.failBlock k).M = s.M := rfl
@[simp] theorem State.failBlock_LDMASK : (s.failBlock k).LDMASK = s.LDMASK := rfl
@[simp] theorem State.failBlock_ST : (s.failBlock k).ST = k.blockMode := rfl
@[simp] theorem State.failBlock_PHASE : (s.failBlock k).PHASE = Config.unspecPhase s.unspec := rfl
@[simp] theorem State.failBlock_T : (s.failBlock k).T = Config.unspecT s.unspec := rfl
@[simp] theorem State.failBlock_ERR : (s.failBlock k).ERR = k.code := rfl
@[simp] theorem State.failBlock_data : (s.failBlock k).data = s.data := rfl
@[simp] theorem State.failBlock_response : (s.failBlock k).response = s.response := rfl
@[simp] theorem State.failBlock_operands : (s.failBlock k).operands = s.operands := rfl
@[simp] theorem State.failBlock_D : (s.failBlock k).D = s.D := rfl
@[simp] theorem State.failBlock_slots : (s.failBlock k).slots = s.slots := rfl
@[simp] theorem State.failBlock_gateResult : (s.failBlock k).gateResult = s.gateResult := rfl
@[simp] theorem State.failBlock_params : (s.failBlock k).params = s.params := rfl
@[simp] theorem State.failBlock_pending : (s.failBlock k).pending = s.pending := rfl
@[simp] theorem State.failBlock_draws : (s.failBlock k).draws = s.draws := rfl
@[simp] theorem State.failBlock_unspec : (s.failBlock k).unspec = s.unspec + 1 := rfl
end

section
variable (s : State) (h : Vector EWord 8)
@[simp] theorem State.initDone_H : (s.initDone h).H = some h := rfl
@[simp] theorem State.initDone_V : (s.initDone h).V = none := rfl
@[simp] theorem State.initDone_W : (s.initDone h).W = unwrittenFile 64 := rfl
@[simp] theorem State.initDone_M : (s.initDone h).M = unwrittenFile 16 := rfl
@[simp] theorem State.initDone_LDMASK : (s.initDone h).LDMASK = 0 := rfl
@[simp] theorem State.initDone_ST : (s.initDone h).ST = .idle := rfl
@[simp] theorem State.initDone_PHASE : (s.initDone h).PHASE = Config.unspecPhase s.unspec := rfl
@[simp] theorem State.initDone_T : (s.initDone h).T = Config.unspecT s.unspec := rfl
@[simp] theorem State.initDone_ERR : (s.initDone h).ERR = .none := rfl
@[simp] theorem State.initDone_data : (s.initDone h).data = s.data := rfl
@[simp] theorem State.initDone_response : (s.initDone h).response = s.response := rfl
@[simp] theorem State.initDone_operands : (s.initDone h).operands = s.operands := rfl
@[simp] theorem State.initDone_D : (s.initDone h).D = s.D := rfl
@[simp] theorem State.initDone_slots : (s.initDone h).slots = s.slots := rfl
@[simp] theorem State.initDone_gateResult : (s.initDone h).gateResult = s.gateResult := rfl
@[simp] theorem State.initDone_params : (s.initDone h).params = s.params := rfl
@[simp] theorem State.initDone_pending : (s.initDone h).pending = s.pending := rfl
@[simp] theorem State.initDone_draws : (s.initDone h).draws = s.draws := rfl
@[simp] theorem State.initDone_unspec : (s.initDone h).unspec = s.unspec + 1 := rfl
end

section
variable (s : State) (k : FailKind)
@[simp] theorem State.initFailed_H : (s.initFailed k).H = none := rfl
@[simp] theorem State.initFailed_V : (s.initFailed k).V = none := rfl
@[simp] theorem State.initFailed_W : (s.initFailed k).W = unwrittenFile 64 := rfl
@[simp] theorem State.initFailed_M : (s.initFailed k).M = unwrittenFile 16 := rfl
@[simp] theorem State.initFailed_LDMASK : (s.initFailed k).LDMASK = 0 := rfl
@[simp] theorem State.initFailed_ST : (s.initFailed k).ST = .halted := rfl
@[simp] theorem State.initFailed_PHASE : (s.initFailed k).PHASE = Config.unspecPhase s.unspec := rfl
@[simp] theorem State.initFailed_T : (s.initFailed k).T = Config.unspecT s.unspec := rfl
@[simp] theorem State.initFailed_ERR : (s.initFailed k).ERR = k.code := rfl
@[simp] theorem State.initFailed_data : (s.initFailed k).data = s.data := rfl
@[simp] theorem State.initFailed_response : (s.initFailed k).response = s.response := rfl
@[simp] theorem State.initFailed_operands : (s.initFailed k).operands = s.operands := rfl
@[simp] theorem State.initFailed_D : (s.initFailed k).D = s.D := rfl
@[simp] theorem State.initFailed_slots : (s.initFailed k).slots = s.slots := rfl
@[simp] theorem State.initFailed_gateResult : (s.initFailed k).gateResult = s.gateResult := rfl
@[simp] theorem State.initFailed_params : (s.initFailed k).params = s.params := rfl
@[simp] theorem State.initFailed_pending : (s.initFailed k).pending = s.pending := rfl
@[simp] theorem State.initFailed_draws : (s.initFailed k).draws = s.draws := rfl
@[simp] theorem State.initFailed_unspec : (s.initFailed k).unspec = s.unspec + 1 := rfl
end

section
variable (s : State) (i : BitVec 4) (w : EWord)
@[simp] theorem State.loadWord_H : (s.loadWord i w).H = s.H := rfl
@[simp] theorem State.loadWord_V : (s.loadWord i w).V = s.V := rfl
@[simp] theorem State.loadWord_W : (s.loadWord i w).W = s.W := rfl
@[simp] theorem State.loadWord_M : (s.loadWord i w).M = s.M.set i.toNat (some w) i.isLt := rfl
@[simp] theorem State.loadWord_LDMASK : (s.loadWord i w).LDMASK = s.LDMASK ||| (1#16 <<< i.toNat) := rfl
@[simp] theorem State.loadWord_ST : (s.loadWord i w).ST = s.ST := rfl
@[simp] theorem State.loadWord_PHASE : (s.loadWord i w).PHASE = s.PHASE := rfl
@[simp] theorem State.loadWord_T : (s.loadWord i w).T = s.T := rfl
@[simp] theorem State.loadWord_ERR : (s.loadWord i w).ERR = s.ERR := rfl
@[simp] theorem State.loadWord_data : (s.loadWord i w).data = s.data := rfl
@[simp] theorem State.loadWord_response : (s.loadWord i w).response = s.response := rfl
@[simp] theorem State.loadWord_operands : (s.loadWord i w).operands = s.operands := rfl
@[simp] theorem State.loadWord_D : (s.loadWord i w).D = s.D := rfl
@[simp] theorem State.loadWord_slots : (s.loadWord i w).slots = s.slots := rfl
@[simp] theorem State.loadWord_gateResult : (s.loadWord i w).gateResult = s.gateResult := rfl
@[simp] theorem State.loadWord_params : (s.loadWord i w).params = s.params := rfl
@[simp] theorem State.loadWord_pending : (s.loadWord i w).pending = s.pending := rfl
@[simp] theorem State.loadWord_draws : (s.loadWord i w).draws = s.draws := rfl
@[simp] theorem State.loadWord_unspec : (s.loadWord i w).unspec = s.unspec := rfl
end

section
variable (s : State) (h : Vector EWord 8)
@[simp] theorem State.capture_H : (s.capture h).H = s.H := rfl
@[simp] theorem State.capture_V : (s.capture h).V = some h := rfl
@[simp] theorem State.capture_W : (s.capture h).W = capturedW s := rfl
@[simp] theorem State.capture_M : (s.capture h).M = s.M := rfl
@[simp] theorem State.capture_LDMASK : (s.capture h).LDMASK = s.LDMASK := rfl
@[simp] theorem State.capture_ST : (s.capture h).ST = .busy := rfl
@[simp] theorem State.capture_PHASE : (s.capture h).PHASE = .sched := rfl
@[simp] theorem State.capture_T : (s.capture h).T = 16 := rfl
@[simp] theorem State.capture_ERR : (s.capture h).ERR = s.ERR := rfl
@[simp] theorem State.capture_data : (s.capture h).data = s.data := rfl
@[simp] theorem State.capture_response : (s.capture h).response = s.response := rfl
@[simp] theorem State.capture_operands : (s.capture h).operands = s.operands := rfl
@[simp] theorem State.capture_D : (s.capture h).D = s.D := rfl
@[simp] theorem State.capture_slots : (s.capture h).slots = s.slots := rfl
@[simp] theorem State.capture_gateResult : (s.capture h).gateResult = s.gateResult := rfl
@[simp] theorem State.capture_params : (s.capture h).params = s.params := rfl
@[simp] theorem State.capture_pending : (s.capture h).pending = s.pending := rfl
@[simp] theorem State.capture_draws : (s.capture h).draws = s.draws := rfl
@[simp] theorem State.capture_unspec : (s.capture h).unspec = s.unspec := rfl
end

section
variable (s : State) (h : Vector EWord 8)
@[simp] theorem State.commitBlock_H : (s.commitBlock h).H = some h := rfl
@[simp] theorem State.commitBlock_V : (s.commitBlock h).V = none := rfl
@[simp] theorem State.commitBlock_W : (s.commitBlock h).W = unwrittenFile 64 := rfl
@[simp] theorem State.commitBlock_M : (s.commitBlock h).M = s.M := rfl
@[simp] theorem State.commitBlock_LDMASK : (s.commitBlock h).LDMASK = 0 := rfl
@[simp] theorem State.commitBlock_ST : (s.commitBlock h).ST = .idle := rfl
@[simp] theorem State.commitBlock_PHASE : (s.commitBlock h).PHASE = Config.unspecPhase s.unspec := rfl
@[simp] theorem State.commitBlock_T : (s.commitBlock h).T = Config.unspecT s.unspec := rfl
@[simp] theorem State.commitBlock_ERR : (s.commitBlock h).ERR = .none := rfl
@[simp] theorem State.commitBlock_data : (s.commitBlock h).data = s.data := rfl
@[simp] theorem State.commitBlock_response : (s.commitBlock h).response = s.response := rfl
@[simp] theorem State.commitBlock_operands : (s.commitBlock h).operands = s.operands := rfl
@[simp] theorem State.commitBlock_D : (s.commitBlock h).D = s.D := rfl
@[simp] theorem State.commitBlock_slots : (s.commitBlock h).slots = s.slots := rfl
@[simp] theorem State.commitBlock_gateResult : (s.commitBlock h).gateResult = s.gateResult := rfl
@[simp] theorem State.commitBlock_params : (s.commitBlock h).params = s.params := rfl
@[simp] theorem State.commitBlock_pending : (s.commitBlock h).pending = s.pending := rfl
@[simp] theorem State.commitBlock_draws : (s.commitBlock h).draws = s.draws := rfl
@[simp] theorem State.commitBlock_unspec : (s.commitBlock h).unspec = s.unspec + 1 := rfl
end

section
variable (s : State)
@[simp] theorem State.advance_H : (s.advance).H = s.H := rfl
@[simp] theorem State.advance_V : (s.advance).V = s.V := rfl
@[simp] theorem State.advance_W : (s.advance).W = s.W := rfl
@[simp] theorem State.advance_M : (s.advance).M = s.M := rfl
@[simp] theorem State.advance_LDMASK : (s.advance).LDMASK = s.LDMASK := rfl
@[simp] theorem State.advance_ST : (s.advance).ST = s.ST := rfl
@[simp] theorem State.advance_PHASE : (s.advance).PHASE = (nextPosition s.PHASE s.T).1 := rfl
@[simp] theorem State.advance_T : (s.advance).T = (nextPosition s.PHASE s.T).2 := rfl
@[simp] theorem State.advance_ERR : (s.advance).ERR = s.ERR := rfl
@[simp] theorem State.advance_data : (s.advance).data = s.data := rfl
@[simp] theorem State.advance_response : (s.advance).response = s.response := rfl
@[simp] theorem State.advance_operands : (s.advance).operands = s.operands := rfl
@[simp] theorem State.advance_D : (s.advance).D = s.D := rfl
@[simp] theorem State.advance_slots : (s.advance).slots = s.slots := rfl
@[simp] theorem State.advance_gateResult : (s.advance).gateResult = s.gateResult := rfl
@[simp] theorem State.advance_params : (s.advance).params = s.params := rfl
@[simp] theorem State.advance_pending : (s.advance).pending = s.pending := rfl
@[simp] theorem State.advance_draws : (s.advance).draws = s.draws := rfl
@[simp] theorem State.advance_unspec : (s.advance).unspec = s.unspec := rfl
end

section
variable (s : State) (w : EWord)
@[simp] theorem State.writeW_H : (s.writeW w).H = s.H := rfl
@[simp] theorem State.writeW_V : (s.writeW w).V = s.V := rfl
@[simp] theorem State.writeW_W : (s.writeW w).W = s.W.set s.T.val (some w) s.T.isLt := rfl
@[simp] theorem State.writeW_M : (s.writeW w).M = s.M := rfl
@[simp] theorem State.writeW_LDMASK : (s.writeW w).LDMASK = s.LDMASK := rfl
@[simp] theorem State.writeW_ST : (s.writeW w).ST = s.ST := rfl
@[simp] theorem State.writeW_PHASE : (s.writeW w).PHASE = s.PHASE := rfl
@[simp] theorem State.writeW_T : (s.writeW w).T = s.T := rfl
@[simp] theorem State.writeW_ERR : (s.writeW w).ERR = s.ERR := rfl
@[simp] theorem State.writeW_data : (s.writeW w).data = s.data := rfl
@[simp] theorem State.writeW_response : (s.writeW w).response = s.response := rfl
@[simp] theorem State.writeW_operands : (s.writeW w).operands = s.operands := rfl
@[simp] theorem State.writeW_D : (s.writeW w).D = s.D := rfl
@[simp] theorem State.writeW_slots : (s.writeW w).slots = s.slots := rfl
@[simp] theorem State.writeW_gateResult : (s.writeW w).gateResult = s.gateResult := rfl
@[simp] theorem State.writeW_params : (s.writeW w).params = s.params := rfl
@[simp] theorem State.writeW_pending : (s.writeW w).pending = s.pending := rfl
@[simp] theorem State.writeW_draws : (s.writeW w).draws = s.draws := rfl
@[simp] theorem State.writeW_unspec : (s.writeW w).unspec = s.unspec := rfl
end

section
variable (s : State) (v : Vector EWord 8)
@[simp] theorem State.writeV_H : (s.writeV v).H = s.H := rfl
@[simp] theorem State.writeV_V : (s.writeV v).V = some v := rfl
@[simp] theorem State.writeV_W : (s.writeV v).W = s.W := rfl
@[simp] theorem State.writeV_M : (s.writeV v).M = s.M := rfl
@[simp] theorem State.writeV_LDMASK : (s.writeV v).LDMASK = s.LDMASK := rfl
@[simp] theorem State.writeV_ST : (s.writeV v).ST = s.ST := rfl
@[simp] theorem State.writeV_PHASE : (s.writeV v).PHASE = s.PHASE := rfl
@[simp] theorem State.writeV_T : (s.writeV v).T = s.T := rfl
@[simp] theorem State.writeV_ERR : (s.writeV v).ERR = s.ERR := rfl
@[simp] theorem State.writeV_data : (s.writeV v).data = s.data := rfl
@[simp] theorem State.writeV_response : (s.writeV v).response = s.response := rfl
@[simp] theorem State.writeV_operands : (s.writeV v).operands = s.operands := rfl
@[simp] theorem State.writeV_D : (s.writeV v).D = s.D := rfl
@[simp] theorem State.writeV_slots : (s.writeV v).slots = s.slots := rfl
@[simp] theorem State.writeV_gateResult : (s.writeV v).gateResult = s.gateResult := rfl
@[simp] theorem State.writeV_params : (s.writeV v).params = s.params := rfl
@[simp] theorem State.writeV_pending : (s.writeV v).pending = s.pending := rfl
@[simp] theorem State.writeV_draws : (s.writeV v).draws = s.draws := rfl
@[simp] theorem State.writeV_unspec : (s.writeV v).unspec = s.unspec := rfl
end

end Sys2Proof.Machine
end

