-- ==== Sys2Proof/Laws/Ops.lean ====
section
/-! SUPPORT. Everything each shared operation can do, said once: sequencing, acceptance, finishing a request, reading a file. -/

namespace Sys2Proof.Machine

/-! ### Sequencing -/

section
variable {α β : Type} (o : Host.Outcome α Fault Refusal) (f : α → Host.Outcome β Fault Refusal)
@[simp] theorem andThen_next (a : α) : andThen (.next a) f = f a := rfl
@[simp] theorem andThen_fault (r : Fault) : andThen (.fault r) f = .fault r := rfl
@[simp] theorem andThen_refused (r : Refusal) : andThen (.refused r) f = .refused r := rfl

/-- A sequence answers next exactly when both parts do. -/
theorem andThen_eq_next (b : β) : andThen o f = .next b ↔ ∃ a, o = .next a ∧ f a = .next b := by
  cases o <;> simp

/-- A sequence faults when its first part does, or its second after it. -/
theorem andThen_eq_fault (r : Fault) : andThen o f = .fault r ↔ o = .fault r ∨ ∃ a, o = .next a ∧ f a = .fault r := by
  cases o <;> simp

@[simp] theorem written_some (r : Store) (x : α) : written r (some x) = .next x := rfl
@[simp] theorem written_none (r : Store) : written r (none : Option α) = .fault (.unwritten r) := rfl
end

/-! ### Acceptance -/

theorem inModes_accept (modes : List Mode) (s : State) (body : Host.Outcome State Fault Refusal) (h : s.ST ∈ modes) :
    inModes modes s body = body := by simp [inModes, h]

theorem inModes_refuse (modes : List Mode) (s : State) (body : Host.Outcome State Fault Refusal) (h : s.ST ∉ modes) :
    inModes modes s body = .next (s.respond .protocol .empty) := by simp [inModes, h]

/-! ### Draws -/

@[simp] theorem nextDraw_nil (s : State) (h : s.draws = []) : s.nextDraw = .success := by simp [State.nextDraw, h]

theorem nextDraw_cons (s : State) (d : Draw) (ds : List Draw) (h : s.draws = d :: ds) : s.nextDraw = d := by
  simp [State.nextDraw, h]

/-! ### Ending a block -/

theorem failRequest_busy (s : State) (k : FailKind) (h : s.ST = .busy) : s.failRequest k = s.failBlock k := by
  simp [State.failRequest, h]

theorem failRequest_not_busy (s : State) (k : FailKind) (h : s.ST ≠ .busy) : s.failRequest k = s := by
  simp [State.failRequest, h]

/-! ### Finishing a request -/

/-- R82: a gate request always answers a next state. -/
theorem finishGate_success (x : Circuit EBit) (s : State) (h : s.nextDraw = .success) :
    finishGate x s = .next { s with draws := s.draws.tail, gateResult := some (.ok x.out) } := by
  rw [finishGate, h]; rfl

theorem finishGate_fail (x : Circuit EBit) (s : State) (k : FailKind) (h : s.nextDraw = .fail k) :
    finishGate x s =
      .next (({ s with draws := s.draws.tail, gateResult := some (.fail k) } : State).failRequest k) := by
  rw [finishGate, h]; rfl

/-- R103: an operator without a request cannot fail. -/
theorem finishWord_wiring (x : Circuit EWord) (s : State) (h : makesRequest x = false) :
    finishWord x s = .next { s with D := some x.out } := by
  rw [finishWord, h]; rfl

theorem finishWord_success (x : Circuit EWord) (s : State) (hr : makesRequest x = true) (h : s.nextDraw = .success) :
    finishWord x s = .next { s with draws := s.draws.tail, D := some x.out } := by
  rw [finishWord, hr, h]; rfl

theorem finishWord_fail (x : Circuit EWord) (s : State) (k : FailKind) (hr : makesRequest x = true)
    (h : s.nextDraw = .fail k) :
    finishWord x s = .next (({ s with draws := s.draws.tail, D := none } : State).failRequest k) := by
  rw [finishWord, hr, h]; rfl

/-- R177: a micro-step commits, or ends the block. -/
theorem finishMicroStep_success (s : State) (commit : State → State) (h : s.nextDraw = .success) :
    finishMicroStep s commit = commit s.dropDraw := by rw [finishMicroStep, h]

theorem finishMicroStep_fail (s : State) (commit : State → State) (k : FailKind) (h : s.nextDraw = .fail k) :
    finishMicroStep s commit = s.dropDraw.failBlock k := by rw [finishMicroStep, h]

/-! ### Register files -/

theorem readW_fin (s : State) (i : Fin 64) : readW s i.val = s.W[i] := by simp [readW]

theorem readM_eq_some (s : State) (i : Nat) (w : EWord) :
    readM s i = some w ↔ ∃ h : i < 16, s.LDMASK.getLsbD i = true ∧ s.M[i] = some w := by
  unfold readM
  by_cases h : i < 16 <;> by_cases h2 : s.LDMASK.getLsbD i = true <;> simp [h, h2]

theorem blockReadable_iff (s : State) : blockReadable s = true ↔ ∀ i < 16, (readM s i).isSome := by
  simp [blockReadable]

theorem capturedW_get (s : State) (i : Nat) (h : i < 64) :
    (capturedW s)[i] = if i < 16 then readM s i else s.W[i] := by
  simp [capturedW]

@[simp] theorem unwrittenFile_get (n i : Nat) (h : i < n) : (unwrittenFile n)[i] = none := by simp [unwrittenFile]

/-! ### The step -/

/-- What a step runs, by the kind of the next event. -/
theorem step_idle_turn (s : State) (h : s.pending = []) : step s = microStep s := by simp [step, fetch, h]

theorem step_microStep (s : State) (es : List Event) (h : s.pending = .microStep :: es) :
    step s = microStep { s with pending := es } := by simp [step, fetch, h]

end Sys2Proof.Machine
end

