-- ==== Sys2Proof/Laws/PerInstr.lean ====
section
/-! SUPPORT. A statement for every instruction: its encoding fits its own row of the spec's match and mask tables. -/

open Sys2Proof

/-- R75, R81, R86: a well-formed instruction's encoding matches the row of the opcode table it stands for. -/
def Sys2Proof.Laws.RowMatch.Statement (i : Instr) : Prop :=
  i.wellFormed = true → (rowOf i).matchesWord (encode i) = true

theorem Sys2Proof.Laws.RowMatch.init : Sys2Proof.Laws.RowMatch.Statement .init := by
  unfold Sys2Proof.Laws.RowMatch.Statement; decide

theorem Sys2Proof.Laws.RowMatch.load (idx : BitVec 4) : Sys2Proof.Laws.RowMatch.Statement (.load idx) := by
  revert idx; unfold Sys2Proof.Laws.RowMatch.Statement; decide

theorem Sys2Proof.Laws.RowMatch.absorb : Sys2Proof.Laws.RowMatch.Statement .absorb := by
  unfold Sys2Proof.Laws.RowMatch.Statement; decide

theorem Sys2Proof.Laws.RowMatch.read (idx : BitVec 4) : Sys2Proof.Laws.RowMatch.Statement (.read idx) := by
  revert idx; unfold Sys2Proof.Laws.RowMatch.Statement; decide

theorem Sys2Proof.Laws.RowMatch.status : Sys2Proof.Laws.RowMatch.Statement .status := by
  unfold Sys2Proof.Laws.RowMatch.Statement; decide

theorem Sys2Proof.Laws.RowMatch.abort : Sys2Proof.Laws.RowMatch.Statement .abort := by
  unfold Sys2Proof.Laws.RowMatch.Statement; decide

theorem Sys2Proof.Laws.RowMatch.and : Sys2Proof.Laws.RowMatch.Statement .and := by
  unfold Sys2Proof.Laws.RowMatch.Statement; decide

theorem Sys2Proof.Laws.RowMatch.or : Sys2Proof.Laws.RowMatch.Statement .or := by
  unfold Sys2Proof.Laws.RowMatch.Statement; decide

theorem Sys2Proof.Laws.RowMatch.xor : Sys2Proof.Laws.RowMatch.Statement .xor := by
  unfold Sys2Proof.Laws.RowMatch.Statement; decide

theorem Sys2Proof.Laws.RowMatch.not : Sys2Proof.Laws.RowMatch.Statement .not := by
  unfold Sys2Proof.Laws.RowMatch.Statement; decide

theorem Sys2Proof.Laws.RowMatch.mux : Sys2Proof.Laws.RowMatch.Statement .mux := by
  unfold Sys2Proof.Laws.RowMatch.Statement; decide

theorem Sys2Proof.Laws.RowMatch.triv (kb : Bool) : Sys2Proof.Laws.RowMatch.Statement (.triv kb) := by
  revert kb; unfold Sys2Proof.Laws.RowMatch.Statement; decide

theorem Sys2Proof.Laws.RowMatch.xork (kb : Bool) : Sys2Proof.Laws.RowMatch.Statement (.xork kb) := by
  revert kb; unfold Sys2Proof.Laws.RowMatch.Statement; decide

theorem Sys2Proof.Laws.RowMatch.add32 : Sys2Proof.Laws.RowMatch.Statement .add32 := by
  unfold Sys2Proof.Laws.RowMatch.Statement; decide

theorem Sys2Proof.Laws.RowMatch.addk32 : Sys2Proof.Laws.RowMatch.Statement .addk32 := by
  unfold Sys2Proof.Laws.RowMatch.Statement; decide

theorem Sys2Proof.Laws.RowMatch.xor32 : Sys2Proof.Laws.RowMatch.Statement .xor32 := by
  unfold Sys2Proof.Laws.RowMatch.Statement; decide

theorem Sys2Proof.Laws.RowMatch.rotr (n : BitVec 5) : Sys2Proof.Laws.RowMatch.Statement (.rotr n) := by
  revert n; unfold Sys2Proof.Laws.RowMatch.Statement; decide

theorem Sys2Proof.Laws.RowMatch.shr (n : BitVec 5) : Sys2Proof.Laws.RowMatch.Statement (.shr n) := by
  revert n; unfold Sys2Proof.Laws.RowMatch.Statement; decide

theorem Sys2Proof.Laws.RowMatch.ch32 : Sys2Proof.Laws.RowMatch.Statement .ch32 := by
  unfold Sys2Proof.Laws.RowMatch.Statement; decide

theorem Sys2Proof.Laws.RowMatch.maj32 : Sys2Proof.Laws.RowMatch.Statement .maj32 := by
  unfold Sys2Proof.Laws.RowMatch.Statement; decide

theorem Sys2Proof.Laws.RowMatch.bsig0 : Sys2Proof.Laws.RowMatch.Statement .bsig0 := by
  unfold Sys2Proof.Laws.RowMatch.Statement; decide

theorem Sys2Proof.Laws.RowMatch.bsig1 : Sys2Proof.Laws.RowMatch.Statement .bsig1 := by
  unfold Sys2Proof.Laws.RowMatch.Statement; decide

theorem Sys2Proof.Laws.RowMatch.ssig0 : Sys2Proof.Laws.RowMatch.Statement .ssig0 := by
  unfold Sys2Proof.Laws.RowMatch.Statement; decide

theorem Sys2Proof.Laws.RowMatch.ssig1 : Sys2Proof.Laws.RowMatch.Statement .ssig1 := by
  unfold Sys2Proof.Laws.RowMatch.Statement; decide

theorem Sys2Proof.Laws.RowMatch.triv32 : Sys2Proof.Laws.RowMatch.Statement .triv32 := by
  unfold Sys2Proof.Laws.RowMatch.Statement; decide
end

