-- ==== Sys2Proof/Laws/Sequencer.lean ====
section
/-! SUPPORT. The micro-sequences, run once and for all: what each micro-step kind computes, in the plaintext functions. -/

namespace Sys2Proof.Machine

/-! ### The lines' words -/

theorem decode_ssig1 : decodeUop16 0x5800#16 = .ok .ssig1 := by decide
theorem decode_ssig0 : decodeUop16 0x5000#16 = .ok .ssig0 := by decide
theorem decode_add32 : decodeUop16 0x0800#16 = .ok .add32 := by decide
theorem decode_addk32 : decodeUop16 0x1000#16 = .ok .addk32 := by decide
theorem decode_bsig1 : decodeUop16 0x4800#16 = .ok .bsig1 := by decide
theorem decode_ch32 : decodeUop16 0x3000#16 = .ok .ch32 := by decide
theorem decode_bsig0 : decodeUop16 0x4000#16 = .ok .bsig0 := by decide
theorem decode_maj32 : decodeUop16 0x3800#16 = .ok .maj32 := by decide

/-! ### Which micro-step runs -/

theorem microStep_idle (s : State) (h : s.ST ≠ .busy) : microStep s = .next s := by
  unfold microStep; split <;> simp_all

theorem microStep_sched (s : State) (h : s.ST = .busy) (hp : s.PHASE = .sched) : microStep s = schedStep s := by
  simp [microStep, h, hp]

theorem microStep_round (s : State) (h : s.ST = .busy) (hp : s.PHASE = .round) : microStep s = roundStep s := by
  simp [microStep, h, hp]

theorem microStep_ff (s : State) (h : s.ST = .busy) (hp : s.PHASE = .ff) : microStep s = ffStep s := by
  simp [microStep, h, hp]

/-! ### Running the lines -/

/-- R172, R174: the SCHED lines compute the recurrence. -/
theorem schedLines_run (s : State) (w2 w7 w15 w16 : EWord)
    (h2 : readW s (s.T.val - 2) = some w2) (h7 : readW s (s.T.val - 7) = some w7)
    (h15 : readW s (s.T.val - 15) = some w15) (h16 : readW s (s.T.val - 16) = some w16) :
    ∃ x, runLines s schedLines ⟨[], []⟩ = .next x ∧ x.out[4]? = some (scheduleWord w2 w7 w15 w16) := by
  simp [schedLines, runLines, runLine, readSrcs, readSrc, h2, h7, h15, h16, decode_ssig1, decode_ssig0, decode_add32,
    wordCircuit, lineOperands, addCircuit_out, smallSigma0Circuit_out, smallSigma1Circuit_out, scheduleWord]

/-- R173, R174: the ROUND lines compute `e'` and `a'`. -/
theorem roundLines_run (s : State) (v : Vector EWord 8) (w : EWord) (hv : s.V = some v) (hw : readW s s.T.val = some w) :
    ∃ x, runLines s roundLines ⟨[], []⟩ = .next x ∧
      x.out[9]? = some (v[3] + roundT1 v kRom[s.T] w) ∧ x.out[10]? = some (roundT1 v kRom[s.T] w + roundT2 v) := by
  simp [roundLines, runLines, runLine, readSrcs, readSrc, hv, hw, decode_addk32, decode_bsig1, decode_add32, decode_ch32,
    decode_bsig0, decode_maj32, wordCircuit, lineOperands, addCircuit_out, constAddCircuit_out, bigSigma0Circuit_out,
    bigSigma1Circuit_out, chooseCircuit_out, majorityCircuit_out, roundT1, roundT2]
  ac_rfl

/-- R174: the FF lines, one by one. -/
theorem ffLines_eq : ffLines =
    [⟨0x0800, [.chaining 0, .working 0]⟩, ⟨0x0800, [.chaining 1, .working 1]⟩, ⟨0x0800, [.chaining 2, .working 2]⟩,
     ⟨0x0800, [.chaining 3, .working 3]⟩, ⟨0x0800, [.chaining 4, .working 4]⟩, ⟨0x0800, [.chaining 5, .working 5]⟩,
     ⟨0x0800, [.chaining 6, .working 6]⟩, ⟨0x0800, [.chaining 7, .working 7]⟩] := by decide

/-- R174, R175: the FF lines compute the eight sums. -/
theorem ffLines_run (s : State) (h v : Vector EWord 8) (hh : s.H = some h) (hv : s.V = some v) :
    ∃ x, runLines s ffLines ⟨[], []⟩ = .next x ∧ eightWords x.out = some (feedForward h v) := by
  rw [ffLines_eq]
  simp [runLines, runLine, readSrcs, readSrc, hv, hh, decode_add32, wordCircuit, lineOperands, addCircuit_out]
  rw [eightWords, dif_pos (by simp)]
  congr 1

/-! ### The micro-steps -/

/-- R172, R177: a schedule micro-step writes `W[t]` and advances, or fails. -/
theorem schedStep_next (s : State) (w2 w7 w15 w16 : EWord) (ht : 16 ≤ s.T.val)
    (h2 : readW s (s.T.val - 2) = some w2) (h7 : readW s (s.T.val - 7) = some w7)
    (h15 : readW s (s.T.val - 15) = some w15) (h16 : readW s (s.T.val - 16) = some w16) :
    schedStep s = .next (finishMicroStep s fun u => (u.writeW (scheduleWord w2 w7 w15 w16)).advance) := by
  obtain ⟨x, hx, ho⟩ := schedLines_run s w2 w7 w15 w16 h2 h7 h15 h16
  rw [schedStep, if_neg (by omega), hx, andThen_next, ho]

/-- R173, R177: a round micro-step writes `V` and advances, or fails. -/
theorem roundStep_next (s : State) (v : Vector EWord 8) (w : EWord) (hv : s.V = some v) (hw : readW s s.T.val = some w) :
    roundStep s = .next (finishMicroStep s fun u => (u.writeV (roundValue v kRom[s.T] w)).advance) := by
  obtain ⟨x, hx, h9, h10⟩ := roundLines_run s v w hv hw
  rw [roundStep, hx, andThen_next, hv, written_some, andThen_next, h9, h10]
  rfl

/-- R175, R177: the feed-forward micro-step commits, or fails. -/
theorem ffStep_next (s : State) (h v : Vector EWord 8) (hh : s.H = some h) (hv : s.V = some v) :
    ffStep s = .next (finishMicroStep s fun u => u.commitBlock (feedForward h v)) := by
  obtain ⟨x, hx, ho⟩ := ffLines_run s h v hh hv
  rw [ffStep, hx, andThen_next, ho]

end Sys2Proof.Machine
end

