-- ==== Sys2Proof/Machine/Assembly.lean ====
section
/-! DEFINITION. How the spec writes an instruction as a line of text (R93, R95). No step reads it. -/

namespace Sys2Proof.Machine

/-- A number as decimal text. -/
def numberText (n : Nat) : String := toString n

/-- A public bit as text. -/
def bitText (k : Bool) : String := if k then "1" else "0"

/-- R93, R95: the line of an instruction, its destination first; an operand on a lane is written by the spec's own name for it. -/
def assemblyLine : Instr → String
  | .init => "INIT"
  | .load idx => "LOAD " ++ numberText idx.toNat ++ ", <word>"
  | .absorb => "ABSORB"
  | .read idx => "READ " ++ numberText idx.toNat
  | .status => "STATUS"
  | .abort => "ABORT"
  | .and => "AND r, a, b"
  | .or => "OR r, a, b"
  | .xor => "XOR r, a, b"
  | .not => "NOT r, a"
  | .mux => "MUX r, s, x, y"
  | .triv kb => "TRIV r, " ++ bitText kb
  | .xork kb => "XORK r, a, " ++ bitText kb
  | .add32 => "ADD32 d, s1, s2"
  | .addk32 => "ADDK32 d, s1, #k"
  | .xor32 => "XOR32 d, s1, s2"
  | .rotr n => "ROTR d, s1, " ++ numberText n.toNat
  | .shr n => "SHR d, s1, " ++ numberText n.toNat
  | .ch32 => "CH32 d, e, f, g"
  | .maj32 => "MAJ32 d, a, b, c"
  | .bsig0 => "BSIG0 d, s1"
  | .bsig1 => "BSIG1 d, s1"
  | .ssig0 => "SSIG0 d, s1"
  | .ssig1 => "SSIG1 d, s1"
  | .triv32 => "TRIV32 d, #k"

end Sys2Proof.Machine
end

