-- ==== Sys2Proof/Tests/Slice0.lean ====
section
/-! SUPPORT. The model's own tests and witnesses. Expected values come from spec/95_test_vectors.md and the truth tables of R113;
a witness shows a state and operands that meet a statement's hypotheses. -/

open Sys2Proof Sys2Proof.Machine

section

set_option maxRecDepth 20000

/-! ### Well-formedness -/

/-- The one check: READ's index. The ill-formed term is refused. -/
theorem test_wellFormed_read : Instr.wellFormed (.read 8) = false ∧ Instr.wellFormed (.read 15) = false ∧
    Instr.wellFormed (.read 7) = true ∧ Instr.wellFormed (.load 15) = true := by decide

/-! ### Decoding: words written out bit by bit from R71 to R75, R80, R81, R85 and R86 (the words are those of 95_test_vectors.md
2.1, 2.5 and 2.11) -/

theorem test_decode_cmd32 :
    decode (.cmd32 0b00010000000000000000000000000000) = .ok .init ∧
    decode (.cmd32 0b00100000000000000000000000000000) = .ok (.load 0) ∧
    decode (.cmd32 0b00100000000000000000000000001111) = .ok (.load 15) ∧
    decode (.cmd32 0b00110000000000000000000000000000) = .ok .absorb ∧
    decode (.cmd32 0b01000000000000000000000000000000) = .ok (.read 0) ∧
    decode (.cmd32 0b01000000000000000000000000000111) = .ok (.read 7) ∧
    decode (.cmd32 0b01010000000000000000000000000000) = .ok .status ∧
    decode (.cmd32 0b01100000000000000000000000000000) = .ok .abort := by decide

theorem test_decode_gate8 :
    decode (.gate8 0b00010000) = .ok .and ∧ decode (.gate8 0b00100000) = .ok .or ∧
    decode (.gate8 0b00110000) = .ok .xor ∧ decode (.gate8 0b01000000) = .ok .not ∧
    decode (.gate8 0b01010000) = .ok .mux ∧ decode (.gate8 0b01100000) = .ok (.triv false) ∧
    decode (.gate8 0b01100001) = .ok (.triv true) ∧ decode (.gate8 0b01110000) = .ok (.xork false) ∧
    decode (.gate8 0b01110001) = .ok (.xork true) := by decide

theorem test_decode_uop16 :
    decode (.uop16 0b0000100000000000) = .ok .add32 ∧ decode (.uop16 0b0001000000000000) = .ok .addk32 ∧
    decode (.uop16 0b0001100000000000) = .ok .xor32 ∧ decode (.uop16 0b0010000010000000) = .ok (.rotr 2) ∧
    decode (.uop16 0b0010011111000000) = .ok (.rotr 31) ∧ decode (.uop16 0b0010100011000000) = .ok (.shr 3) ∧
    decode (.uop16 0b0010101010000000) = .ok (.shr 10) ∧ decode (.uop16 0b0011000000000000) = .ok .ch32 ∧
    decode (.uop16 0b0011100000000000) = .ok .maj32 ∧ decode (.uop16 0b0100000000000000) = .ok .bsig0 ∧
    decode (.uop16 0b0100100000000000) = .ok .bsig1 ∧ decode (.uop16 0b0101000000000000) = .ok .ssig0 ∧
    decode (.uop16 0b0101100000000000) = .ok .ssig1 ∧ decode (.uop16 0b0110000000000000) = .ok .triv32 := by decide

theorem test_reject_cmd32 :
    decode (.cmd32 0b00000000000000000000000000000000) = .error .commandOpcode ∧
    decode (.cmd32 0b01110000000000000000000000000000) = .error .commandOpcode ∧
    decode (.cmd32 0b11110000000000000000000000000000) = .error .commandOpcode ∧
    decode (.cmd32 0b00101000000000000000000000000000) = .error .commandReserved ∧
    decode (.cmd32 0b01010000000000000000000000010000) = .error .commandReserved ∧
    decode (.cmd32 0b00010000000000000000000000001111) = .error .commandIndex ∧
    decode (.cmd32 0b01010000000000000000000000000001) = .error .commandIndex ∧
    decode (.cmd32 0b01000000000000000000000000001000) = .error .commandIndex := by decide

theorem test_reject_gate8 :
    decode (.gate8 0b00000000) = .error .gateOpcode ∧ decode (.gate8 0b10000000) = .error .gateOpcode ∧
    decode (.gate8 0b11110000) = .error .gateOpcode ∧ decode (.gate8 0b00110010) = .error .gateReserved ∧
    decode (.gate8 0b00011000) = .error .gateReserved ∧ decode (.gate8 0b00010001) = .error .gateConstant ∧
    decode (.gate8 0b01010001) = .error .gateConstant := by decide

theorem test_reject_uop16 :
    decode (.uop16 0b0000000000000000) = .error .uopOpcode ∧ decode (.uop16 0b0110100000000000) = .error .uopOpcode ∧
    decode (.uop16 0b1111100000000000) = .error .uopOpcode ∧ decode (.uop16 0b0010000000000001) = .error .uopReserved ∧
    decode (.uop16 0b0010000000100000) = .error .uopReserved ∧ decode (.uop16 0b0000100001000000) = .error .uopAmount ∧
    decode (.uop16 0b0110000001000000) = .error .uopAmount := by decide

/-- The encoder gives the same words. -/
theorem test_encode :
    encode (.load 15) = .cmd32 0x2000000f ∧ encode (.xork true) = .gate8 0x71 ∧
    encode (.rotr 31) = .uop16 0x27c0 := by decide

/-- The table's numbering: the width names the format. -/
theorem test_decodeTableWord :
    decodeTableWord 32 0x40000007 = some (.read 7) ∧ decodeTableWord 16 0x2A80 = some (.shr 10) ∧
    decodeTableWord 8 0x61 = some (.triv true) ∧ decodeTableWord 8 0x11 = none ∧ decodeTableWord 24 0 = none := by decide

theorem test_assemblyLine : assemblyLine (.load 15) = "LOAD 15, <word>" ∧ assemblyLine (.rotr 4) = "ROTR d, s1, 4" := by decide

/-! ### Small states -/

namespace Sys2Proof.Test

/-- Reset with one gate request waiting. -/
def gate (byte : BitVec 8) (a b c : EBit) : State := { State.reset with pending := [.gateRequest byte ⟨some a, some b, some c⟩] }

/-- Reset with one micro-operation waiting. -/
def word (w : BitVec 16) (s1 s2 s3 : EWord) (kc : Word32) : State :=
  { State.reset with pending := [.wordOp w ⟨s1, s2, s3, kc⟩] }

/-- Reset with these bits in the slots. -/
def slotted (a b c : EBit) : State := { State.reset with slots := ⟨some a, some b, some c⟩ }

/-- A state with one host command waiting. -/
def command (s : State) (w : BitVec 32) (data : List EBit) : State := { s with pending := [.command w data] }

/-- IDLE with a full buffer of one repeated word. -/
def loaded (w : EWord) : State := { State.reset with M := Vector.replicate 16 (some w), LDMASK := 0xFFFF }

/-- A block in flight at a position, every word of the schedule the same. -/
def running (p : Phase) (t : Fin 64) (w : EWord) : State :=
  { loaded w with ST := .busy, PHASE := p, T := t, V := some ivRom, W := Vector.replicate 64 (some w) }

/-- HALTED after a KEY_MISMATCH. -/
def halted : State := { loaded 0 with ST := .halted, ERR := .keyMismatch }

/-- The oracle's next answer is a failure. -/
def failing (k : FailKind) (s : State) : State := { s with draws := [.fail k] }

/-- The gate result after one step. -/
def bit (s : State) : Option GateResult := (nextState (step s)).bind (·.gateResult)

/-- D after one step. -/
def result (s : State) : Option EWord := (nextState (step s)).bind (·.D)

/-- The response after one step. -/
def response (s : State) : Option Response := (nextState (step s)).bind (·.response)

/-- The STATUS word of the state after one step. -/
def status (s : State) : Option Word32 := (nextState (step s)).map statusWord

/-- How many interactive requests the micro-step at the position makes. -/
def nextReqs (s : State) : Option Nat :=
  match microStepRequests s with
  | .next gs => some (gs.countP fun r => isInteractive r.gate)
  | .fault _ => none
  | .refused _ => none

end Sys2Proof.Test

open Sys2Proof.Test

/-! ### Gates (95_test_vectors.md 2.1) -/

theorem test_and : bit (gate 0x10 true true false) = some (.ok true) ∧ bit (gate 0x10 true false true) = some (.ok false) := by
  decide
theorem test_or : bit (gate 0x20 false false true) = some (.ok false) ∧ bit (gate 0x20 true false false) = some (.ok true) := by
  decide
theorem test_xor : bit (gate 0x30 true true false) = some (.ok false) ∧ bit (gate 0x30 false true false) = some (.ok true) := by
  decide
theorem test_not : bit (gate 0x40 false true true) = some (.ok true) ∧ bit (gate 0x40 true true true) = some (.ok false) := by
  decide
theorem test_mux : bit (gate 0x50 true false true) = some (.ok false) ∧ bit (gate 0x50 false false true) = some (.ok true) := by
  decide
theorem test_mux_unfused :
    bit { gate 0x50 true false true with params := ⟨.ripple, false, .andOr, 0⟩ } = some (.ok false) ∧
    (muxCircuit ⟨.ripple, false, .andOr, 0⟩ true false true).reqs.map (·.gate) = [.not, .and, .and, .or] := by decide
theorem test_triv : bit (gate 0x60 true true true) = some (.ok false) ∧ bit (gate 0x61 false false false) = some (.ok true) := by
  decide
theorem test_xork : bit (gate 0x70 true false false) = some (.ok true) ∧ bit (gate 0x71 true false false) = some (.ok false) := by
  decide
theorem test_gate_fails : bit (failing .keyMismatch (gate 0x40 false false false)) = some (.fail .keyMismatch) := by decide

/-- R80: the server key goes with a request, and an unused slot does not. -/
theorem test_request_carries_key :
    (gateCircuit ⟨.ripple, true, .andOr, 7⟩ .not ⟨some true, some false, some false⟩).reqs =
      [⟨.not, ⟨some true, none, none⟩, 7⟩] := by decide

/-! ### Word operators (95_test_vectors.md 2.2 to 2.7) -/

theorem test_add32_carries_out : result (word 0x0800 0xffffffff 0xffffffff 0 0) = some 0xfffffffe := by decide
theorem test_add32_example : result (word 0x0800 0x12345678 0x9abcdef0 0 0) = some 0xacf13568 := by decide
theorem test_addk32_round0 : result (word 0x1000 0x5be0cd19 0 0 0x428a2f98) = some 0x9e6afcb1 := by decide
theorem test_addk32_counts :
    countOf (constAddCircuit State.reset.params 0x5be0cd19 0x428a2f98) .and = 17 ∧ countOf (constAddCircuit State.reset.params 0x5be0cd19 0x428a2f98) .or = 13 := by
  decide
theorem test_xor32 : result (word 0x1800 0xf0f0f0f0 0xff00ff00 0 0) = some 0x0ff00ff0 := by decide
theorem test_rotr : result (word 0x2100 0x12345678 0 0 0) = some 0x81234567 ∧
    result (word 0x27C0 0x80000001 0 0 0) = some 0x00000003 := by decide
theorem test_rotr_zero : result (word 0x2000 0x12345678 0 0 0) = some 0x12345678 := by decide
theorem test_shr : result (word 0x2900 0x12345678 0 0 0) = some 0x01234567 ∧
    result (word 0x2FC0 0x80000001 0 0 0) = some 0x00000001 := by decide
theorem test_shr_zero_cannot_fail : result (failing .keyMismatch (word 0x2800 0x12345678 0 0 0)) = some 0x12345678 := by decide
theorem test_ch32 : result (word 0x3000 0x510e527f 0x9b05688c 0x1f83d9ab 0) = some 0x1f85c98c := by decide
theorem test_maj32 : result (word 0x3800 0x6a09e667 0xbb67ae85 0x3c6ef372 0) = some 0x3a6fe667 := by decide
theorem test_bsig0 : result (word 0x4000 0x6a09e667 0 0 0) = some 0xce20b47e := by decide
theorem test_bsig1 : result (word 0x4800 0x510e527f 0 0 0) = some 0x3587272b := by decide
theorem test_ssig0 : result (word 0x5000 0xffffffff 0 0 0) = some 0x1fffffff := by decide
theorem test_ssig1 : result (word 0x5800 0x00000018 0 0 0) = some 0x000f0000 := by decide
theorem test_triv32 : result (word 0x6000 0 0 0 0x6a09e667) = some 0x6a09e667 := by decide
theorem test_word_fails : result (failing .evaluationFailure (word 0x0800 1 1 0 0)) = none := by decide

/-! ### Host commands (95_test_vectors.md 2.12) -/

theorem test_init : status (command halted 0x10000000 []) = some 0 ∧
    response (command halted 0x10000000 []) = some ⟨.none, .empty⟩ := by decide
theorem test_init_fails : status (failing .evaluationFailure (command (loaded 0) 0x10000000 [])) = some 0x00000032 ∧
    response (failing .keyMismatch (command (loaded 0) 0x10000000 [])) = some ⟨.keyMismatch, .empty⟩ := by decide
theorem test_load : status (command { State.reset with LDMASK := 0x7fff } 0x2000000f (List.replicate 32 true)) =
    some 0xffff0100 := by decide
theorem test_load_short : response (command State.reset 0x20000003 (List.replicate 31 true)) =
    some ⟨.malformedInput, .empty⟩ := by decide
theorem test_absorb : status (command (loaded 5) 0x30000000 []) = some 0xffff0101 := by decide
theorem test_absorb_partial : response (command { loaded 5 with LDMASK := 0x7fff } 0x30000000 []) =
    some ⟨.malformedInput, .empty⟩ := by decide
theorem test_read : response (command State.reset 0x40000000 []) = some ⟨.none, .word 0x6a09e667⟩ := by decide
theorem test_read_halted : response (command halted 0x40000000 []) = some ⟨.protocol, .empty⟩ := by decide
theorem test_status : response (command halted 0x50000000 []) = some ⟨.none, .status 0xffff0122⟩ := by decide
theorem test_abort : status (command (running .round 2 0) 0x60000000 []) = some 0xffff0162 := by decide
theorem test_abort_idle : response (command State.reset 0x60000000 []) = some ⟨.protocol, .empty⟩ := by decide
theorem test_illegal : response (command (running .round 2 0) 0x50000001 []) = some ⟨.illegalCommand, .empty⟩ := by decide

/-! ### Micro-steps (95_test_vectors.md 2.8 to 2.10, P5, P6) -/

/-- Row 17 of 2.8: `W[t-2]` is 00000018, not the printed index's word. -/
theorem test_schedule_row17 :
    (nextState (step { running .sched 17 0 with W := (Vector.replicate 64 (some 0)).set 15 (some 0x18) })).map
      (fun t => (t.W[17], t.PHASE, t.T)) = some (some 0x000f0000, .sched, 18) := by decide

/-- Row 0 of 2.9. -/
theorem test_round0 :
    (nextState (step (running .round 0 0x61626380))).map (·.V) =
      some (some #v[0x5d6aebcd, 0x6a09e667, 0xbb67ae85, 0x3c6ef372, 0xfa2a4622, 0x510e527f, 0x9b05688c, 0x1f83d9ab]) := by
  decide

/-- 2.10. -/
theorem test_feedForward :
    (nextState (step { running .ff 63 0 with
      V := some #v[0x506e3058, 0xd39a2165, 0x04d24d6c, 0xb85e2ce9, 0x5ef50f24, 0xfb121210, 0x948d25b6, 0x961f4894] })).map
      (fun t => (t.H, t.ST, t.LDMASK)) =
      some (some #v[0xba7816bf, 0x8f01cfea, 0x414140de, 0x5dae2223, 0xb00361a3, 0x96177a9c, 0xb410ff61, 0xf20015ad],
        .idle, 0) := by decide

theorem test_microStep_fails : status (failing .evaluationFailure (running .round 12 0)) = some 0xffff0130 ∧
    status (failing .keyMismatch (running .sched 16 0)) = some 0xffff0122 := by decide

/-- 2.8: the interactive requests of a schedule step, and of a round (R272). -/
theorem test_microStep_requests :
    (nextReqs (running .sched 16 0)) = some 410 ∧ (nextReqs (running .round 0 0)) = some 945 ∧
    (nextReqs (running .ff 0 0)) = some 752 := by decide

/-! ### Host duties (95_test_vectors.md E1) -/

theorem test_padding_empty : (encodeMessage []).map (·.map wordOfBits) = [0x80000000 :: List.replicate 15 0] := by decide

/-- R94: WAIT answers the STATUS word of a dead hash, it does not judge it. -/
theorem test_wait_halted : (match waitBlock 1 halted with | .done e => some e.2 | .error _ _ => none | .stopped => none) =
    some 0xffff0122 := by decide

theorem test_digest_bytes : (decryptDigest (digestBits (List.replicate 8 0xba7816bf))).map (·.take 4) =
    some [0xba, 0x78, 0x16, 0xbf] := by decide

/-! ### Placing a word -/

theorem test_withFetchWord :
    (nextState (step (State.reset.withFetchWord 8 0x61))).bind (·.gateResult) = some (.ok true) ∧
    (nextState (step (State.reset.withFetchWord 16 0x6000))).bind (·.D) = some 0 ∧
    (nextState (step (State.reset.withFetchWord 32 0x2000000f))).map (·.LDMASK) = some 0x8000 := by decide

/-! ### Witnesses: states and operands that meet the hypotheses of the statement named -/

theorem witness_DecodeOfEncodeIsTheInstruction :
    Instr.wellFormed (.read 7) = true ∧ Instr.wellFormed (.load 15) = true ∧ Instr.wellFormed (.shr 31) = true := by decide

theorem witness_DecodedWordIsItsEncoding :
    decode (.cmd32 0x40000007) = .ok (.read 7) ∧ decode (.gate8 0x71) = .ok (.xork true) ∧
    decode (.uop16 0x27C0) = .ok (.rotr 31) := by decide

theorem witness_CommandWordLegalExactlyWhenARowMatches :
    (command State.reset 0x40000008 []).pending = .command 0x40000008 [] :: [] ∧
    (∀ r ∈ cmdRows, r.fits 0x40000008 = false) := by decide

theorem witness_ReservedRequestsAreRefused_gate :
    (gate 0x11 false false false).pending = .gateRequest 0x11 ⟨some false, some false, some false⟩ :: [] ∧ gateOp 0x00 = 0 ∧
    8 ≤ (gateOp 0x80).toNat ∧ 8 ≤ (gateOp 0xF0).toNat ∧ gateRsv 0x32 ≠ 0 ∧
    (gateKb 0x11 = true ∧ gateOp 0x11 ≠ 6 ∧ gateOp 0x11 ≠ 7) ∧ (gateKb 0x51 = true ∧ gateOp 0x51 ≠ 6 ∧ gateOp 0x51 ≠ 7) := by
  decide

theorem witness_ReservedRequestsAreRefused_word :
    (word 0x0840 0 0 0 0).pending = .wordOp 0x0840 ⟨0, 0, 0, 0⟩ :: [] ∧ uopOp 0x0000 = 0 ∧
    0x0D ≤ (uopOp 0x6800).toNat ∧ 0x0D ≤ (uopOp 0xF800).toNat ∧ uopRsv 0x2001 ≠ 0 ∧
    (uopN 0x0840 ≠ 0 ∧ uopOp 0x0840 ≠ 4 ∧ uopOp 0x0840 ≠ 5) ∧ (uopN 0x67C0 ≠ 0 ∧ uopOp 0x67C0 ≠ 4 ∧ uopOp 0x67C0 ≠ 5) := by
  decide

theorem witness_StepRunsTheDecodedInstruction :
    ((command State.reset 0x40000007 []).pending = .command 0x40000007 [] :: [] ∧ decode (.cmd32 0x40000007) = .ok (.read 7)) ∧
    ((word 0x2FC0 1 2 3 4).pending = .wordOp 0x2FC0 ⟨1, 2, 3, 4⟩ :: [] ∧ decode (.uop16 0x2FC0) = .ok (.shr 31)) ∧
    ((gate 0x71 true false true).pending = .gateRequest 0x71 ⟨some true, some false, some true⟩ :: [] ∧
      decode (.gate8 0x71) = .ok (.xork true)) ∧
    ({ State.reset with pending := [.microStep] } : State).pending = .microStep :: [] ∧ State.reset.pending = [] := by decide

theorem witness_IllegalCommandChangesNoState :
    (command halted 0x00000000 []).pending = .command 0x00000000 [] :: [] ∧ cmdOp 0x00000000 = 0 ∧
    7 ≤ (cmdOp 0x70000000).toNat ∧ cmdRsv 0x28000000 ≠ 0 ∧ cmdRsv 0x50000010 ≠ 0 ∧
    (cmdIdx 0x1000000f ≠ 0 ∧ cmdOp 0x1000000f = 1) ∧ (cmdIdx 0x30000001 ≠ 0 ∧ cmdOp 0x30000001 = 3) ∧
    (cmdIdx 0x50000001 ≠ 0 ∧ cmdOp 0x50000001 = 5) ∧ (cmdIdx 0x60000001 ≠ 0 ∧ cmdOp 0x60000001 = 6) ∧
    (cmdOp 0x40000008 = 4 ∧ 8 ≤ (cmdIdx 0x40000008).toNat) := by decide

/-- For every statement whose hypothesis is that the next draw succeeds: the three gate and word-operator families. -/
theorem witness_draw_succeeds :
    State.reset.nextDraw = .success ∧ ({ running .round 3 7 with draws := [.success, .fail .keyMismatch] } : State).nextDraw =
      .success := by decide

theorem witness_GateRequestReturnsItsTruthTable :
    ∀ x ∈ [(true, false, true), (false, true, false)],
      (slotted x.1 x.2.1 x.2.2).nextDraw = .success ∧ (slotted x.1 x.2.1 x.2.2).slots.a = some x.1 ∧
      (slotted x.1 x.2.1 x.2.2).slots.b = some x.2.1 ∧ (slotted x.1 x.2.1 x.2.2).slots.c = some x.2.2 := by decide

/-- The slots may hold nothing: reset's do. -/
theorem witness_GateRequestAlwaysReturns : State.reset.nextDraw = .success ∧ State.reset.slots = noSlots := by decide

theorem witness_EveryRequestCarriesTheServerKey :
    (wordCircuit (.shr 1) ⟨.ripple, true, .andOr, 7⟩ ⟨1, 2, 3, 4⟩).isSome ∧
    (⟨.triv false, noSlots, 7⟩ : Request) ∈ (gateCircuit ⟨.ripple, true, .andOr, 7⟩ (.triv false) noSlots).reqs ∧
    nextReqs (running .sched 16 0) = some 410 := by decide

theorem witness_UnfusedEngineNeverIssuesMux :
    (⟨.ripple, false, .andOr, 7⟩ : Params).muxFused = false ∧
    (wordCircuit .ch32 ⟨.ripple, false, .andOr, 7⟩ ⟨1, 2, 3, 4⟩).isSome ∧
    (nextReqs { running .ff 63 5 with params := ⟨.ripple, false, .andOr, 7⟩ }).isSome := by decide

theorem witness_EveryGateRequestCanFail :
    ((failing .keyMismatch State.reset).nextDraw = .fail .keyMismatch ∧ (failing .keyMismatch State.reset).ST ≠ .busy) ∧
    ((failing .evaluationFailure (running .ff 63 0)).nextDraw = .fail .evaluationFailure ∧
      (failing .evaluationFailure (running .ff 63 0)).ST = .busy) := by decide

theorem witness_ShiftFillsWithZeros : (1 : BitVec 5) ≠ 0 ∧ (31 : BitVec 5) ≠ 0 ∧ State.reset.nextDraw = .success := by decide

theorem witness_FailedWordOperatorYieldsNoResult :
    (failing .keyMismatch halted).nextDraw = .fail .keyMismatch ∧ (failing .keyMismatch halted).ST ≠ .busy ∧
    (failing .evaluationFailure (running .sched 16 0)).ST = .busy ∧
    Instr.triv32 ∈ [Instr.add32, .addk32, .xor32, .ch32, .maj32, .bsig0, .bsig1, .ssig0, .ssig1, .triv32] ∧
    ∃ n, Instr.shr 1 = .shr n ∧ n ≠ 0 := ⟨by decide, by decide, by decide, by decide, 1, by decide, by decide⟩

theorem witness_RippleAdderRequestCounts :
    (State.reset.params.adder = .ripple ∧ State.reset.params.muxFused = true) ∧
    ((⟨.ripple, false, .other, 9⟩ : Params).adder = .ripple ∧ (⟨.ripple, false, .other, 9⟩ : Params).muxFused = false) := by
  decide

theorem witness_BitwiseOperatorRequestCounts : State.reset.params.maj = .andOr := by decide

theorem witness_RelabelingsCompose : (31 : Nat) < 32 ∧ (16 : Nat) + 15 < 32 ∧ ¬ (16 : Nat) + 16 < 32 := by decide

theorem witness_InitIsResetAsACommand :
    halted.nextDraw = .success ∧ (failing .evaluationFailure halted).nextDraw = .fail .evaluationFailure := by decide

theorem witness_LoadWritesOneWordOfTheBuffer : State.reset.ST = .idle ∧ State.reset.data.length = 32 := by decide

theorem witness_LoadsToDifferentWordsCommute : ∃ a b c d,
    exec (.load 0) { State.reset with data := List.replicate 32 true } = .next a ∧
    exec (.load 15) { a with data := List.replicate 32 false } = .next b ∧
    exec (.load 15) { State.reset with data := List.replicate 32 false } = .next c ∧
    exec (.load 0) { c with data := List.replicate 32 true } = .next d ∧ (0 : BitVec 4) ≠ 15 ∧ State.reset.ST = .idle :=
  ⟨_, _, _, _, rfl, rfl, rfl, rfl, by decide, rfl⟩

theorem witness_AbsorbCapturesTheBlock :
    (loaded 5).ST = .idle ∧ (loaded 5).LDMASK = 0xFFFF ∧ (loaded 5).H = some ivRom ∧
    ∀ i : Fin 16, (loaded 5).M[i] = some (Vector.replicate 16 (5 : EWord))[i] := by decide

theorem witness_ReadReturnsAChainingRegister :
    State.reset.ST = .idle ∧ State.reset.H = some ivRom ∧ (0 : BitVec 4).toNat < 8 ∧ (7 : BitVec 4).toNat < 8 ∧
    8 ≤ (8 : BitVec 4).toNat ∧ 8 ≤ (15 : BitVec 4).toNat := by decide

theorem witness_AbortDropsTheBlock : (running .sched 16 0).ST = .busy ∧ (running .ff 63 0).ST = .busy := by decide

theorem witness_CommandChecksRunInOrder_refused :
    (command (running .round 0 0) 0x20000003 []).pending = .command 0x20000003 [] :: [] ∧
    decodeCmd32 0x40000008 = .error .commandIndex ∧
    (decodeCmd32 0x20000003 = .ok (.load 3) ∧ acceptedIn (.load 3) .busy = false) ∧
    (decodeCmd32 0x60000000 = .ok .abort ∧ acceptedIn .abort .halted = false) ∧
    (acceptedIn (.load 3) .idle = true ∧ ¬ OperandsFit (.load 3) { State.reset with data := List.replicate 31 true }) ∧
    (acceptedIn .absorb .idle = true ∧ ¬ OperandsFit .absorb { loaded 5 with LDMASK := 0x7fff }) := by decide

theorem witness_CommandChecksRunInOrder_accepted :
    (acceptedIn .absorb (loaded 5).ST = true ∧ OperandsFit .absorb { loaded 5 with data := [] } ∧ EngineInv (loaded 5)) ∧
    (acceptedIn .init halted.ST = true ∧ OperandsFit .init { halted with data := [] } ∧ EngineInv halted) :=
  ⟨⟨by decide, ⟨nofun, fun _ => by decide⟩, by decide⟩, by decide, ⟨nofun, nofun⟩, by decide⟩

theorem witness_ScheduleStepFollowsTheRecurrence :
    ∀ t ∈ [(16 : Fin 64), 63], (running .sched t 5).ST = .busy ∧ (running .sched t 5).PHASE = .sched ∧
      16 ≤ (running .sched t 5).T.val ∧ (running .sched t 5).nextDraw = .success ∧
      readW (running .sched t 5) (t.val - 2) = some 5 ∧ readW (running .sched t 5) (t.val - 7) = some 5 ∧
      readW (running .sched t 5) (t.val - 15) = some 5 ∧ readW (running .sched t 5) (t.val - 16) = some 5 := by decide

theorem witness_RoundStepIsTheRoundFunction :
    ∀ t ∈ [(0 : Fin 64), 63], (running .round t 5).ST = .busy ∧ (running .round t 5).PHASE = .round ∧
      (running .round t 5).nextDraw = .success ∧ (running .round t 5).W[t] = some 5 ∧ (running .round t 5).V =
        some #v[0x6a09e667, 0xbb67ae85, 0x3c6ef372, 0xa54ff53a, 0x510e527f, 0x9b05688c, 0x1f83d9ab, 0x5be0cd19] := by decide

theorem witness_FeedForwardCommitsAllEightWords :
    (running .ff 63 5).ST = .busy ∧ (running .ff 63 5).PHASE = .ff ∧ (running .ff 63 5).nextDraw = .success ∧
    (running .ff 63 5).H = some ivRom ∧ (running .ff 63 5).V = some ivRom := by decide

theorem witness_FailedMicroStepEndsTheBlock :
    ∀ p ∈ [(Phase.sched, (16 : Fin 64)), (.sched, 63), (.round, 0), (.ff, 63)], EngineInv (running p.1 p.2 5) ∧
      (running p.1 p.2 5).ST = .busy ∧ (failing .keyMismatch (running p.1 p.2 5)).nextDraw = .fail .keyMismatch := by decide

theorem witness_EngineWaitsOutsideABlock : State.reset.ST ≠ .busy ∧ halted.ST ≠ .busy ∧ State.reset.pending = [] := by decide

/-- For StepKeepsTheInvariant and NoStepFaults: states of the invariant that step on, in each mode. -/
theorem witness_invariant_states :
    ∀ s ∈ [State.reset, halted, running .sched 63 5, running .round 63 5, running .ff 63 5],
      EngineInv s ∧ (nextState (step s)).isSome := by decide

theorem witness_ChainingValueChangesOnlyByInitAndFeedForward :
    ((nextState (step (command { halted with H := none } 0x10000000 []))).map (·.H) = some (some ivRom)) ∧
    ((nextState (step (running .ff 63 5))).map (fun t => decide (t.H = (running .ff 63 5).H))) = some false := by decide

theorem witness_OnlyInitLeavesHalted :
    halted.ST = .halted ∧ (nextState (step (command halted 0x10000000 []))).map (·.ST) = some .idle := by decide

/-- For ParametersNeverChange and RefusalCodesNeverReachErr. -/
theorem witness_step_goes_on :
    (nextState (step (command State.reset 0x60000000 []))).isSome ∧
    State.reset.ERR ∉ [Code.malformedInput, .illegalCommand, .protocol] := by decide

theorem witness_NothingPublicDependsOnAnEncryptedValue :
    hideState (running .round 0 5) = hideState (running .round 0 6) ∧ running .round 0 5 ≠ running .round 0 6 := by decide

/-- For BlockCommitsTheCompressionFunction and ChainingValueUntouchedDuringTheBlock. -/
theorem witness_BlockCommitsTheCompressionFunction :
    (loaded 5).ST = .idle ∧ (loaded 5).LDMASK = 0xFFFF ∧ (loaded 5).H = some ivRom ∧
    (∀ i : Fin 16, (loaded 5).M[i] = some (Vector.replicate 16 (5 : EWord))[i]) ∧ DrawsSucceed (loaded 5) 113 ∧
    DrawsSucceed { loaded 5 with draws := List.replicate 113 .success ++ [.fail .keyMismatch] } 113 := by decide

theorem witness_BlockCommitsTheCompressionFunction_pending :
    ({ loaded 5 with pending := .command 0x30000000 [] :: List.replicate 113 .microStep } : State).pending =
      .command 0x30000000 [] :: (List.replicate 113 .microStep ++ []) ∧ (0 : Nat) < 113 ∧ (112 : Nat) < 113 := by decide

theorem witness_RetryCommitsTheSameValue (n : Nat) (hn : n ∈ [0, 112]) : ∃ s : State, n < 113 ∧
    s.pending = .command 0x30000000 [] :: (List.replicate (n + 1) .microStep ++
      .command 0x30000000 [] :: (List.replicate 113 .microStep ++ [])) ∧
    s.draws = List.replicate n .success ++ .fail .evaluationFailure :: List.replicate 113 .success ∧
    s.ST = .idle ∧ s.LDMASK = 0xFFFF ∧ s.H = some ivRom ∧
    ∀ i : Fin 16, s.M[i] = some (Vector.replicate 16 (5 : EWord))[i] :=
  ⟨{ loaded 5 with
      pending := .command 0x30000000 [] :: (List.replicate (n + 1) .microStep ++
        .command 0x30000000 [] :: (List.replicate 113 .microStep ++ []))
      draws := List.replicate n .success ++ .fail .evaluationFailure :: List.replicate 113 .success },
    by revert n; decide, rfl, rfl, rfl, rfl, rfl, show ∀ i : Fin 16, (loaded 5).M[i] = _ by decide⟩

theorem witness_HostMacroChainsTheBlocks : State.reset.pending = [] ∧ (∀ d ∈ State.reset.draws, d = Draw.success) ∧
    (∀ d ∈ (failing .keyMismatch halted).draws.tail, d = Draw.success) ∧ (114 : Nat) ≤ 114 := by decide

theorem witness_MalformedBlocksAreRejectedFirst :
    (∃ b ∈ [List.replicate 15 (List.replicate 32 false)], b.length ≠ 16 ∨ ∃ w ∈ b, w.length ≠ 32) ∧
    (∃ b ∈ [List.replicate 16 (List.replicate 31 false)], b.length ≠ 16 ∨ ∃ w ∈ b, w.length ≠ 32) ∧
    (List.replicate 511 false).length % 512 ≠ 0 := by decide

theorem witness_PaddingFollowsTheRule : padZeros 440 = 7 ∧ (0 : Nat) < 7 ∧ padZeros 447 = 0 ∧ padZeros 448 = 511 ∧
    ([0x61, 0x62, 0x63] : List Byte)[64 * 0 + 4 * 0 + 2]? = some 0x63 := by decide

theorem witness_WaitEndsOutsideBusy : halted.ST ≠ .busy ∧ halted.ERR ≠ .none ∧ State.reset.ST ≠ .busy := by decide

theorem witness_DigestBytesAreBigEndian :
    (List.replicate 255 false).length ≠ 256 ∧ (List.replicate 257 false).length ≠ 256 := by decide

end
end

/-! # Values and requests of the word operators, whatever the realization -/

namespace Sys2Proof.Machine

/-! ### The values of the word operators -/

/-- R131 to R143: the plaintext value of a word micro-operation on its operand lanes; none for an instruction that is no UOP16.
It takes no parameter, which is what R7 to R9 ask of a value (`wordCircuit_map_out`). -/
def wordValue (i : Instr) (o : Operands) : Option EWord :=
  match i with
  | .add32 => some (o.s1 + o.s2)
  | .addk32 => some (o.s1 + o.kc)
  | .xor32 => some (o.s1 ^^^ o.s2)
  | .rotr n => some (rotateRight o.s1 n.toNat)
  | .shr n => some (o.s1 >>> n.toNat)
  | .ch32 => some (choose o.s1 o.s2 o.s3)
  | .maj32 => some (majority o.s1 o.s2 o.s3)
  | .bsig0 => some (bigSigma0 o.s1)
  | .bsig1 => some (bigSigma1 o.s1)
  | .ssig0 => some (smallSigma0 o.s1)
  | .ssig1 => some (smallSigma1 o.s1)
  | .triv32 => some o.kc
  | _ => none

/-- Every realization of a word operator has the operator's plaintext value. -/
theorem wordCircuit_map_out (i : Instr) (p : Params) (o : Operands) :
    (wordCircuit i p o).map Circuit.out = wordValue i o := by
  cases i
  case add32 => exact congrArg some (addCircuit_out p o.s1 o.s2)
  case addk32 => exact congrArg some (constAddCircuit_out p o.s1 o.kc)
  case xor32 => exact congrArg some (xorCircuit_out p o.s1 o.s2)
  case rotr n => exact congrArg some (rotateCircuit_out o.s1 n.toNat n.isLt)
  case shr n => exact congrArg some (shiftCircuit_out p o.s1 n.toNat)
  case ch32 => exact congrArg some (chooseCircuit_out p o.s1 o.s2 o.s3)
  case maj32 => exact congrArg some (majorityCircuit_out p o.s1 o.s2 o.s3)
  case bsig0 => exact congrArg some (bigSigma0Circuit_out p o.s1)
  case bsig1 => exact congrArg some (bigSigma1Circuit_out p o.s1)
  case ssig0 => exact congrArg some (smallSigma0Circuit_out p o.s1)
  case ssig1 => exact congrArg some (smallSigma1Circuit_out p o.s1)
  case triv32 => exact congrArg some (trivialCircuit_out p o.kc)
  all_goals rfl

/-- Settles O22: each value is a function of the operands alone, so two parameter choices share it. -/
theorem realizationNeverChangesAValue : Obligations.RealizationNeverChangesAValue := by
  intro p q o i x y z
  refine ⟨?_, ?_, ?_⟩
  · rw [muxCircuit_out, muxCircuit_out]
  · rw [majCircuit_out, majCircuit_out]
  · rw [wordCircuit_map_out, wordCircuit_map_out]

/-! ### A property of every request

A property `P` of requests that holds of what a gate sends on any slots holds of every request of the circuits, because they are
made of gates by `feed` and `wire`. -/

/-- Every request of a circuit satisfies `P`. -/
def Circuit.AllRequests {α : Type} (P : Request → Prop) (x : Circuit α) : Prop := ∀ r ∈ x.reqs, P r

section
variable {α β : Type} (P : Request → Prop)

@[simp] theorem wire_allRequests (x : α) : (wire x).AllRequests P := by simp [Circuit.AllRequests]

@[simp] theorem feed_allRequests (x : Circuit α) (f : α → Circuit β) :
    (feed x f).AllRequests P ↔ x.AllRequests P ∧ (f x.out).AllRequests P := by
  simp [Circuit.AllRequests, or_imp, forall_and]

theorem gatherBits_allRequests (f : Nat → Circuit EBit) (hf : ∀ i, (f i).AllRequests P) (n : Nat) :
    (gatherBits f n).AllRequests P := by
  induction n with
  | zero => exact wire_allRequests P 0
  | succ n ih => simp [gatherBits, ih, hf n]

theorem eachBit_allRequests (f : Nat → Circuit EBit) (hf : ∀ i, (f i).AllRequests P) : (eachBit f).AllRequests P :=
  gatherBits_allRequests P f hf 32

theorem rotateCircuit_allRequests (w : EWord) (n : Nat) : (rotateCircuit w n).AllRequests P :=
  eachBit_allRequests P _ fun _ => wire_allRequests P _

end

section
variable {p : Params} {P : Request → Prop} (hP : ∀ (g : Gate) (s : Slots), (gateCircuit p g s).AllRequests P)
include hP

/-- A request other than MUX is what its gate sends; a MUX is made by `muxCircuit` only (R81). -/
theorem request_allRequests {g : Gate} {a b c : EBit} (hg : g ≠ .mux) : (request p g a b c).AllRequests P := by
  have gate_sends : gateCircuit p g ⟨some a, some b, some c⟩ = request p g a b c := by
    cases g
    case mux => exact absurd rfl hg
    all_goals rfl
  exact gate_sends ▸ hP g _

theorem muxCircuit_allRequests (sel x y : EBit) : (muxCircuit p sel x y).AllRequests P := hP .mux _

theorem openRequests_satisfy (operands : Nat → EBit × EBit × EBit) (j : Nat) (gs : List Gate) :
    ∀ r ∈ openRequests p operands j gs, P r := by
  induction gs generalizing j with
  | nil => simp [openRequests]
  | cons g gs ih =>
    intro r hr
    rcases List.mem_append.mp hr with hr | hr
    · exact hP g _ r hr
    · exact ih (j + 1) r hr

theorem majCircuit_allRequests (a b c : EBit) : (majCircuit p a b c).AllRequests P := by
  unfold majCircuit
  split
  · simp [request_allRequests hP]
  · simp [request_allRequests hP, muxCircuit_allRequests hP]
  · exact openRequests_satisfy hP _ 0 _

theorem rippleTo_allRequests (a b : EWord) (n : Nat) : (rippleTo p a b n).AllRequests P := by
  induction n with
  | zero => simp [rippleTo, request_allRequests hP]
  | succ n ih =>
    simp only [rippleTo, feed_allRequests]
    refine ⟨ih, request_allRequests hP (by simp), request_allRequests hP (by simp), ?_⟩
    split
    · simp [muxCircuit_allRequests hP]
    · exact wire_allRequests P _

theorem addCircuit_allRequests (a b : EWord) : (addCircuit p a b).AllRequests P := by
  unfold addCircuit
  split
  · simp [rippleTo_allRequests hP]
  · exact openRequests_satisfy hP _ 0 _

theorem constAddTo_allRequests (x : EWord) (k : Word32) (n : Nat) : (constAddTo p x k n).AllRequests P := by
  induction n with
  | zero =>
    simp only [constAddTo, feed_allRequests]
    refine ⟨request_allRequests hP (by simp), ?_, wire_allRequests P _⟩
    split
    · exact wire_allRequests P _
    · exact request_allRequests hP (by simp)
  | succ n ih =>
    simp only [constAddTo, feed_allRequests]
    refine ⟨ih, request_allRequests hP (by simp), request_allRequests hP (by simp), ?_⟩
    split
    · rw [feed_allRequests]
      exact ⟨request_allRequests hP (by split <;> simp), wire_allRequests P _⟩
    · exact wire_allRequests P _

theorem constAddCircuit_allRequests (x : EWord) (k : Word32) : (constAddCircuit p x k).AllRequests P := by
  simp [constAddCircuit, constAddTo_allRequests hP]

theorem xorCircuit_allRequests (a b : EWord) : (xorCircuit p a b).AllRequests P :=
  eachBit_allRequests P _ fun _ => request_allRequests hP (by simp)

theorem chooseCircuit_allRequests (e f g : EWord) : (chooseCircuit p e f g).AllRequests P :=
  eachBit_allRequests P _ fun _ => muxCircuit_allRequests hP _ _ _

theorem majorityCircuit_allRequests (a b c : EWord) : (majorityCircuit p a b c).AllRequests P :=
  eachBit_allRequests P _ fun _ => majCircuit_allRequests hP _ _ _

theorem trivialCircuit_allRequests (k : Word32) : (trivialCircuit p k).AllRequests P :=
  eachBit_allRequests P _ fun _ => request_allRequests hP (by simp)

theorem shiftCircuit_allRequests (w : EWord) (n : Nat) : (shiftCircuit p w n).AllRequests P := by
  refine eachBit_allRequests P _ fun i => ?_
  split
  · exact request_allRequests hP (by simp)
  · exact wire_allRequests P _

theorem xor3Circuit_allRequests (x y z : Circuit EWord) (hx : x.AllRequests P) (hy : y.AllRequests P)
    (hz : z.AllRequests P) : (xor3Circuit p x y z).AllRequests P := by
  simp [xor3Circuit, hx, hy, hz, xorCircuit_allRequests hP]

theorem wordCircuit_allRequests {i : Instr} {o : Operands} {x : Circuit EWord} (h : wordCircuit i p o = some x) :
    x.AllRequests P := by
  have rotate := fun n => rotateCircuit_allRequests P o.s1 n
  have shift := fun n => shiftCircuit_allRequests hP o.s1 n
  cases i <;> cases h
  case add32 => exact addCircuit_allRequests hP _ _
  case addk32 => exact constAddCircuit_allRequests hP _ _
  case xor32 => exact xorCircuit_allRequests hP _ _
  case rotr n => exact rotate _
  case shr n => exact shift _
  case ch32 => exact chooseCircuit_allRequests hP _ _ _
  case maj32 => exact majorityCircuit_allRequests hP _ _ _
  case bsig0 => exact xor3Circuit_allRequests hP _ _ _ (rotate 2) (rotate 13) (rotate 22)
  case bsig1 => exact xor3Circuit_allRequests hP _ _ _ (rotate 6) (rotate 11) (rotate 25)
  case ssig0 => exact xor3Circuit_allRequests hP _ _ _ (rotate 7) (rotate 18) (shift 3)
  case ssig1 => exact xor3Circuit_allRequests hP _ _ _ (rotate 17) (rotate 19) (shift 10)
  case triv32 => exact trivialCircuit_allRequests hP _

theorem initRequests_satisfy : ∀ r ∈ initRequests p, P r := by
  intro r hr
  obtain ⟨j, -, hj⟩ := List.mem_flatMap.mp hr
  exact trivialCircuit_allRequests hP _ r hj

end

section
variable {s : State} {P : Request → Prop} (hP : ∀ (g : Gate) (slots : Slots), (gateCircuit s.params g slots).AllRequests P)
include hP

theorem runLine_allRequests {results : List EWord} {l : Line} {x : Circuit EWord} (h : runLine s results l = .next x) :
    x.AllRequests P := by
  obtain ⟨ws, -, h⟩ := (andThen_eq_next _ _ _).mp h
  split at h
  · split at h
    · cases h; exact wordCircuit_allRequests hP ‹_›
    · cases h
  · cases h

theorem runLines_allRequests {ls : List Line} {done x : Circuit (List EWord)} (hdone : done.AllRequests P)
    (h : runLines s ls done = .next x) : x.AllRequests P := by
  induction ls generalizing done with
  | nil => cases h; exact hdone
  | cons l ls ih =>
    obtain ⟨y, hy, h⟩ := (andThen_eq_next _ _ _).mp h
    refine ih (fun r hr => ?_) h
    rcases List.mem_append.mp hr with hr | hr
    · exact hdone r hr
    · exact runLine_allRequests hP hy r hr

theorem microStepRequests_satisfy {rs : List Request} (h : microStepRequests s = .next rs) : ∀ r ∈ rs, P r := by
  obtain ⟨x, hx, hrs⟩ := (andThen_eq_next _ _ _).mp h
  cases hrs
  have none_yet : (⟨[], []⟩ : Circuit (List EWord)).AllRequests P := nofun
  split at hx <;> exact runLines_allRequests hP none_yet hx

end

/-! ### The server key -/

/-- R12, R80: a gate sends the server key with each of its requests, the four of an unfused MUX included. -/
theorem gateCircuit_carriesKey (p : Params) (g : Gate) (s : Slots) : (gateCircuit p g s).AllRequests (·.key = p.sk) := by
  cases g
  case mux => cases h : p.muxFused <;> simp [Circuit.AllRequests, gateCircuit, muxSlots, h]
  all_goals simp [Circuit.AllRequests, gateCircuit]

/-- Settles O11: what holds of every gate's requests holds of the circuits', and a gate sends the server key. -/
theorem everyRequestCarriesTheServerKey : Obligations.EveryRequestCarriesTheServerKey :=
  ⟨gateCircuit_carriesKey,
    fun p _ _ _ h => wordCircuit_allRequests (gateCircuit_carriesKey p) h,
    fun s _ h => microStepRequests_satisfy (gateCircuit_carriesKey s.params) h,
    fun p => initRequests_satisfy (gateCircuit_carriesKey p)⟩

end Sys2Proof.Machine

/-! # What a step can end in, and its frame on the parameters -/

namespace Sys2Proof.Machine

/-! ### Postconditions of an outcome

`Ensures P o`: where `o` answers a next state, that state satisfies `P`. One rule for each operation the meanings are built of. -/

/-- A next state, if the outcome answers one, satisfies `P`. -/
def Ensures (P : State → Prop) (o : Host.Outcome State Fault Refusal) : Prop := ∀ t, o = .next t → P t

section
variable {P : State → Prop}

@[simp] theorem ensures_next (t : State) : Ensures P (.next t) ↔ P t := by simp [Ensures]
@[simp] theorem ensures_fault (r : Fault) : Ensures P (.fault r) := by simp [Ensures]
@[simp] theorem ensures_refused (r : Refusal) : Ensures P (.refused r) := by simp [Ensures]

theorem andThen_ensures {α : Type} {o : Host.Outcome α Fault Refusal} {f : α → Host.Outcome State Fault Refusal}
    (hf : ∀ a, o = .next a → Ensures P (f a)) : Ensures P (andThen o f) := by
  intro t ht
  obtain ⟨a, ha, hfa⟩ := (andThen_eq_next o f t).mp ht
  exact hf a ha t hfa

theorem inModes_ensures {modes : List Mode} {s : State} {body : Host.Outcome State Fault Refusal}
    (accepted : s.ST ∈ modes → Ensures P body) (refused : s.ST ∉ modes → P (s.respond .protocol .empty)) :
    Ensures P (inModes modes s body) := by
  by_cases h : s.ST ∈ modes
  · rw [inModes_accept _ _ _ h]; exact accepted h
  · rw [inModes_refuse _ _ _ h]; exact (ensures_next _).mpr (refused h)

theorem finishGate_ensures {x : Circuit EBit} {s : State}
    (ok : s.nextDraw = .success → P { s with draws := s.draws.tail, gateResult := some (.ok x.out) })
    (failed : ∀ k, s.nextDraw = .fail k →
      P (({ s with draws := s.draws.tail, gateResult := some (.fail k) } : State).failRequest k)) :
    Ensures P (finishGate x s) := by
  cases h : s.nextDraw with
  | success => rw [finishGate_success x s h]; exact (ensures_next _).mpr (ok h)
  | fail k => rw [finishGate_fail x s k h]; exact (ensures_next _).mpr (failed k h)

theorem finishWord_ensures {x : Circuit EWord} {s : State}
    (wiring : makesRequest x = false → P { s with D := some x.out })
    (ok : s.nextDraw = .success → P { s with draws := s.draws.tail, D := some x.out })
    (failed : ∀ k, s.nextDraw = .fail k → P (({ s with draws := s.draws.tail, D := none } : State).failRequest k)) :
    Ensures P (finishWord x s) := by
  cases hr : makesRequest x with
  | false => rw [finishWord_wiring x s hr]; exact (ensures_next _).mpr (wiring hr)
  | true =>
    cases h : s.nextDraw with
    | success => rw [finishWord_success x s hr h]; exact (ensures_next _).mpr (ok h)
    | fail k => rw [finishWord_fail x s k hr h]; exact (ensures_next _).mpr (failed k h)

end

/-! ### What a step runs, by the next event -/

section
variable {s : State} {es : List Event} {i : Instr} {e : Reject}

theorem step_command {w : BitVec 32} {data : List EBit} (h : s.pending = .command w data :: es)
    (hi : decodeCmd32 w = .ok i) : step s = exec i { s with pending := es, data := data } := by
  simp [step, fetch, h, hi]

theorem step_illegalCommand {w : BitVec 32} {data : List EBit} (h : s.pending = .command w data :: es)
    (he : decodeCmd32 w = .error e) : step s = .next ({ s with pending := es, data := data } : State).answerIllegal := by
  simp [step, fetch, h, he]

theorem step_wordOp {w : BitVec 16} {o : Operands} (h : s.pending = .wordOp w o :: es)
    (hi : decodeUop16 w = .ok i) : step s = exec i { s with pending := es, operands := o } := by
  simp [step, fetch, h, hi]

theorem step_reservedWordOp {w : BitVec 16} {o : Operands} (h : s.pending = .wordOp w o :: es)
    (he : decodeUop16 w = .error e) : step s = .refused (.reservedWordOp w) := by
  simp [step, fetch, h, he]

theorem step_gateRequest {b : BitVec 8} {slots : Slots} (h : s.pending = .gateRequest b slots :: es)
    (hi : decodeGate8 b = .ok i) : step s = exec i { s with pending := es, slots := slots } := by
  simp [step, fetch, h, hi]

theorem step_reservedGate {b : BitVec 8} {slots : Slots} (h : s.pending = .gateRequest b slots :: es)
    (he : decodeGate8 b = .error e) : step s = .refused (.reservedGate b) := by
  simp [step, fetch, h, he]

end

/-! ### No step writes the parameters (R35) -/

/-- The outcome leaves the parameters as they are in `s`. -/
abbrev KeepsParams (s : State) : Host.Outcome State Fault Refusal → Prop := Ensures fun t => t.params = s.params

section
variable (s : State)

@[simp] theorem failRequest_params (k : FailKind) : (s.failRequest k).params = s.params := by
  by_cases h : s.ST = .busy
  · rw [failRequest_busy s k h, State.failBlock_params]
  · rw [failRequest_not_busy s k h]

theorem finishGate_keepsParams (x : Circuit EBit) : KeepsParams s (finishGate x s) :=
  finishGate_ensures (fun _ => rfl) fun k _ => failRequest_params _ k

theorem finishWord_keepsParams (x : Circuit EWord) : KeepsParams s (finishWord x s) :=
  finishWord_ensures (fun _ => rfl) (fun _ => rfl) fun k _ => failRequest_params _ k

theorem finishMicroStep_params (commit : State → State) (hc : ∀ u, (commit u).params = u.params) :
    (finishMicroStep s commit).params = s.params := by
  cases h : s.nextDraw with
  | success => rw [finishMicroStep_success s commit h, hc, State.dropDraw_params]
  | fail k => rw [finishMicroStep_fail s commit k h, State.failBlock_params, State.dropDraw_params]

/-! #### The commands -/

theorem execInit_keepsParams : KeepsParams s (execInit s) := by
  unfold execInit
  split <;> simp

theorem execLoad_keepsParams (idx : BitVec 4) : KeepsParams s (execLoad idx s) := by
  refine inModes_ensures (fun _ => ?_) fun _ => State.respond_params _ _ _
  split <;> simp

theorem execAbsorb_keepsParams : KeepsParams s (execAbsorb s) := by
  refine inModes_ensures (fun _ => ?_) fun _ => State.respond_params _ _ _
  split
  · split
    · exact andThen_ensures fun h _ => by simp
    · simp
  · simp

theorem execRead_keepsParams (idx : BitVec 4) : KeepsParams s (execRead idx s) := by
  unfold execRead
  split
  · exact inModes_ensures (fun _ => andThen_ensures fun hs _ => by simp) fun _ => State.respond_params _ _ _
  · simp

theorem execAbort_keepsParams : KeepsParams s (execAbort s) :=
  inModes_ensures (fun _ => by simp) fun _ => State.respond_params _ _ _

theorem exec_keepsParams (i : Instr) : KeepsParams s (exec i s) := by
  cases i
  case init => exact execInit_keepsParams s
  case load idx => exact execLoad_keepsParams s idx
  case absorb => exact execAbsorb_keepsParams s
  case read idx => exact execRead_keepsParams s idx
  case status => exact (ensures_next _).mpr (State.respond_params _ _ _)
  case abort => exact execAbort_keepsParams s
  case and | or | xor | not | mux | triv | xork => exact finishGate_keepsParams s _
  all_goals exact finishWord_keepsParams s _

/-! #### The controller -/

theorem schedStep_keepsParams : KeepsParams s (schedStep s) := by
  unfold schedStep
  split
  · simp
  · refine andThen_ensures fun x _ => ?_
    split
    · exact (ensures_next _).mpr (finishMicroStep_params s _ fun _ => by simp)
    · simp

theorem roundStep_keepsParams : KeepsParams s (roundStep s) := by
  refine andThen_ensures fun x _ => andThen_ensures fun v _ => ?_
  split
  · exact (ensures_next _).mpr (finishMicroStep_params s _ fun _ => by simp)
  · simp

theorem ffStep_keepsParams : KeepsParams s (ffStep s) := by
  refine andThen_ensures fun x _ => ?_
  split
  · exact (ensures_next _).mpr (finishMicroStep_params s _ fun _ => by simp)
  · simp

theorem microStep_keepsParams : KeepsParams s (microStep s) := by
  by_cases h : s.ST = .busy
  · cases hp : s.PHASE with
    | sched => rw [microStep_sched s h hp]; exact schedStep_keepsParams s
    | round => rw [microStep_round s h hp]; exact roundStep_keepsParams s
    | ff => rw [microStep_ff s h hp]; exact ffStep_keepsParams s
  · rw [microStep_idle s h]; exact (ensures_next s).mpr rfl

end

/-- Latching an event's operands leaves the parameters, and so does what the event then runs. -/
theorem step_keepsParams (s : State) : KeepsParams s (step s) := by
  cases hp : s.pending with
  | nil => rw [step_idle_turn s hp]; exact microStep_keepsParams s
  | cons event es =>
    cases event with
    | microStep => rw [step_microStep s es hp]; exact microStep_keepsParams { s with pending := es }
    | command w data =>
      cases hd : decodeCmd32 w with
      | ok i => rw [step_command hp hd]; exact exec_keepsParams { s with pending := es, data := data } i
      | error e => rw [step_illegalCommand hp hd]; exact (ensures_next _).mpr (State.answerIllegal_params _)
    | wordOp w o =>
      cases hd : decodeUop16 w with
      | ok i => rw [step_wordOp hp hd]; exact exec_keepsParams { s with pending := es, operands := o } i
      | error e => rw [step_reservedWordOp hp hd]; exact ensures_refused _
    | gateRequest b slots =>
      cases hd : decodeGate8 b with
      | ok i => rw [step_gateRequest hp hd]; exact exec_keepsParams { s with pending := es, slots := slots } i
      | error e => rw [step_reservedGate hp hd]; exact ensures_refused _

/-- Settles O49: the frame of every command, request and micro-step on the parameters. -/
theorem parametersNeverChange : Obligations.ParametersNeverChange := fun s => step_keepsParams s

end Sys2Proof.Machine

/-! # The STATUS word and the round constants -/

namespace Sys2Proof.Machine

/-! ### The STATUS word -/

/-- R29, R205: the STATUS word is its fields side by side, the reserved bits 0. -/
theorem statusWord_eq_fields (s : State) :
    statusWord s = s.LDMASK ++ 0#7 ++ BitVec.ofBool (fullFlag s) ++ s.ERR.number ++ 0#2 ++ s.ST.number := by
  unfold statusWord
  generalize s.LDMASK = l, fullFlag s = f, s.ERR.number = e, s.ST.number = m
  refine BitVec.eq_of_getLsbD_eq fun i hi => ?_
  simp only [BitVec.getLsbD_append, BitVec.getLsbD_or, BitVec.getLsbD_shiftLeft, BitVec.truncate_eq_setWidth,
    BitVec.getLsbD_setWidth]
  interval_cases i <;> simp

section
variable (l : BitVec 16) (high : BitVec 7) (f : Bool) (e : BitVec 4) (low : BitVec 2) (m : BitVec 2)

/-- Each slice of a word of R29's fields drops the fields below it and is the next. -/
theorem statusFields_slices :
    (l ++ high ++ BitVec.ofBool f ++ e ++ low ++ m).extractLsb' 0 2 = m ∧
    (l ++ high ++ BitVec.ofBool f ++ e ++ low ++ m).extractLsb' 2 2 = low ∧
    (l ++ high ++ BitVec.ofBool f ++ e ++ low ++ m).extractLsb' 4 4 = e ∧
    (l ++ high ++ BitVec.ofBool f ++ e ++ low ++ m).getLsbD 8 = f ∧
    (l ++ high ++ BitVec.ofBool f ++ e ++ low ++ m).extractLsb' 9 7 = high ∧
    (l ++ high ++ BitVec.ofBool f ++ e ++ low ++ m).extractLsb' 16 16 = l := by
  refine ⟨BitVec.extractLsb'_append_eq_right, ?_, ?_, ?_, ?_, ?_⟩
  · rw [BitVec.extractLsb'_append_eq_of_le (by decide)]
    exact BitVec.extractLsb'_append_eq_right
  · iterate 2 rw [BitVec.extractLsb'_append_eq_of_le (by decide)]
    exact BitVec.extractLsb'_append_eq_right
  · iterate 3 rw [BitVec.getLsbD_append, if_neg (by decide)]
    rw [BitVec.getLsbD_append, if_pos (by decide)]
    exact (BitVec.getLsbD_ofBool ..).trans (by simp)
  · iterate 4 rw [BitVec.extractLsb'_append_eq_of_le (by decide)]
    exact BitVec.extractLsb'_append_eq_right
  · iterate 5 rw [BitVec.extractLsb'_append_eq_of_le (by decide)]
    exact BitVec.extractLsb'_eq_self

end

/-- Settles O34: STATUS answers the STATUS word, whose fields R29's slices read back. -/
theorem statusWordHasItsFields : Obligations.StatusWordHasItsFields := by
  intro s
  obtain ⟨state, low, err, full, high, mask⟩ :=
    statusFields_slices s.LDMASK 0#7 (fullFlag s) s.ERR.number 0#2 s.ST.number
  refine ⟨statusWord s, rfl, ?_⟩
  rw [statusWord_eq_fields]
  refine ⟨state.trans ?_, low, err.trans ?_, full.trans (Bool.beq_eq_decide_eq _ _), high, mask⟩
  · cases s.ST <;> rfl
  · cases s.ERR <;> rfl

/-! ### The round constants -/

/-- Settles O43: the ROM's eight rows are the table's. -/
theorem roundConstantsAreTheSpecs : Obligations.RoundConstantsAreTheSpecs := rfl

end Sys2Proof.Machine

/-! # What a step can do to the architectural state -/

namespace Sys2Proof.Machine

/-! ### The architectural state -/

/-- The state without the model's inputs and the lanes, which every event latches anew: what is left is what R22 to R32 say the
engine holds, and its parameters. -/
def State.arch (s : State) : State :=
  { s with
    data := [], response := none, operands := ⟨0, 0, 0, 0⟩, D := none, slots := noSlots, gateResult := none, pending := [],
    draws := [] }

/-- R201: the next event is the INIT word. -/
abbrev State.InitNext (s : State) : Prop := ∃ data es, s.pending = .command 0x10000000 data :: es

/-- R176: it is the controller's turn. -/
abbrev State.TurnNext (s : State) : Prop := s.pending = [] ∨ ∃ es, s.pending = .microStep :: es

/-! ### What a step runs -/

/-- R73: one command word decodes to INIT, and no request of the other two formats does. -/
theorem decodeCmd32_init {w : BitVec 32} (h : decodeCmd32 w = .ok .init) : w = 0x10000000 := by
  have fields := cmd_fields w
  unfold decodeCmd32 decodeCommandFields commandNoIndex at h
  split_ifs at h with hrsv hop hidx <;> cases h
  rw [fields, hrsv, hop, hidx]
  decide

theorem decodeUop16_ne_init (w : BitVec 16) : decodeUop16 w ≠ .ok .init := by
  unfold decodeUop16 decodeUopFields uopNoAmount
  repeat' refine iteInduction (motive := (· ≠ Except.ok Instr.init)) (fun _ => ?_) fun _ => ?_
  all_goals nofun

theorem decodeGate8_ne_init (b : BitVec 8) : decodeGate8 b ≠ .ok .init := by
  unfold decodeGate8 decodeGateFields gateNoConstant
  repeat' refine iteInduction (motive := (· ≠ Except.ok Instr.init)) (fun _ => ?_) fun _ => ?_
  all_goals nofun

/-- What a step of `s` runs, by the kind of the next event: from a state that differs from `s` in the inputs and lanes only, and
has the same draw waiting. -/
inductive StepRuns (s : State) : Host.Outcome State Fault Refusal → Prop
  | turn (s' : State) (arch : s'.arch = s.arch) (draw : s'.nextDraw = s.nextDraw) (next : s.TurnNext) : StepRuns s (microStep s')
  | instr (i : Instr) (s' : State) (arch : s'.arch = s.arch) (draw : s'.nextDraw = s.nextDraw) (next : i = .init → s.InitNext) :
      StepRuns s (exec i s')
  | illegal (t : State) (arch : t.arch = s.arch) : StepRuns s (.next t)
  | reserved (r : Refusal) : StepRuns s (.refused r)

theorem step_runs (s : State) : StepRuns s (step s) := by
  cases hp : s.pending with
  | nil => rw [step_idle_turn s hp]; exact .turn s rfl rfl (.inl hp)
  | cons event es =>
    cases event with
    | microStep => rw [step_microStep s es hp]; exact .turn _ rfl rfl (.inr ⟨es, hp⟩)
    | command w data =>
      cases hd : decodeCmd32 w with
      | ok i =>
        rw [step_command hp hd]
        refine .instr i _ rfl rfl fun hi => ⟨data, es, ?_⟩
        subst hi
        rw [hp, decodeCmd32_init hd]
      | error e => rw [step_illegalCommand hp hd]; exact .illegal _ rfl
    | wordOp w o =>
      cases hd : decodeUop16 w with
      | ok i => rw [step_wordOp hp hd]; exact .instr i _ rfl rfl fun hi => absurd (hi ▸ hd) (decodeUop16_ne_init w)
      | error e => rw [step_reservedWordOp hp hd]; exact .reserved _
    | gateRequest b slots =>
      cases hd : decodeGate8 b with
      | ok i => rw [step_gateRequest hp hd]; exact .instr i _ rfl rfl fun hi => absurd (hi ▸ hd) (decodeGate8_ne_init b)
      | error e => rw [step_reservedGate hp hd]; exact .reserved _

/-! ### What a step can do -/

/-- What a step can do to the architectural state `a`, each change under its guard: `init` and `turn` say whether the event is the
INIT word or the controller's turn, and `d` is the oracle's answer. Which words a schedule step or a round writes is
left to `schedStep_next` and `roundStep_next`. -/
inductive Effect (init turn : Prop) (d : Draw) (a : State) : State → Prop
  | unchanged : Effect init turn d a a
  | initDone (event : init) (draw : d = .success) : Effect init turn d a (a.initDone (initialChain a.params))
  | initFailed (k : FailKind) (event : init) (draw : d = .fail k) : Effect init turn d a (a.initFailed k)
  | loaded (i : BitVec 4) (w : EWord) (mode : a.ST = .idle) : Effect init turn d a (a.loadWord i w)
  | captured (h : Vector EWord 8) (mode : a.ST = .idle) (full : a.LDMASK = 0xFFFF) (readable : blockReadable a = true)
      (chain : a.H = some h) : Effect init turn d a (a.capture h)
  | aborted (mode : a.ST = .busy) : Effect init turn d a (a.endBlock .halted .aborted)
  | blockFailed (k : FailKind) (draw : d = .fail k) (mode : a.ST = .busy) : Effect init turn d a (a.failBlock k)
  | scheduled (w : EWord) (event : turn) (draw : d = .success) (mode : a.ST = .busy) (phase : a.PHASE = .sched) :
      Effect init turn d a (a.writeW w).advance
  | rounded (v : Vector EWord 8) (event : turn) (draw : d = .success) (mode : a.ST = .busy) (phase : a.PHASE = .round) :
      Effect init turn d a (a.writeV v).advance
  | committed (h v : Vector EWord 8) (event : turn) (draw : d = .success) (mode : a.ST = .busy) (phase : a.PHASE = .ff)
      (chain : a.H = some h) (working : a.V = some v) : Effect init turn d a (a.commitBlock (feedForward h v))

/-- `Effect` from the state that a meaning starts in to the one that it ends in. -/
abbrev HasEffect (init turn : Prop) (s t : State) : Prop := Effect init turn s.nextDraw s.arch t.arch

theorem hasEffect_congr {init turn : Prop} {s s' : State} (arch : s'.arch = s.arch) (draw : s'.nextDraw = s.nextDraw) :
    HasEffect init turn s' = HasEffect init turn s := by
  unfold HasEffect
  rw [arch, draw]

/-- A file that was read held a value. -/
theorem written_eq_next {α : Type} {r : Store} {o : Option α} {x : α} (h : written r o = .next x) : o = some x := by
  cases o <;> cases h; rfl

section
variable {init turn : Prop} (s : State)

/-! #### The requests and the commands -/

/-- R177: a failed request ends the block in flight, and only that. -/
theorem failRequest_effect (u : State) (k : FailKind) (draw : s.nextDraw = .fail k) (same : u.arch = s.arch) :
    HasEffect init turn s (u.failRequest k) := by
  by_cases h : u.arch.ST = .busy
  · rw [failRequest_busy u k h]
    change Effect _ _ _ _ (u.arch.failBlock k)
    rw [same] at h ⊢
    exact .blockFailed k draw h
  · rw [failRequest_not_busy u k h, HasEffect, same]
    exact .unchanged

theorem finishGate_effect (x : Circuit EBit) : Ensures (HasEffect init turn s) (finishGate x s) :=
  finishGate_ensures (fun _ => .unchanged) fun k hk => failRequest_effect s _ k hk rfl

theorem finishWord_effect (x : Circuit EWord) : Ensures (HasEffect init turn s) (finishWord x s) :=
  finishWord_ensures (fun _ => .unchanged) (fun _ => .unchanged) fun k hk => failRequest_effect s _ k hk rfl

theorem execInit_effect (event : init) : Ensures (HasEffect init turn s) (execInit s) := by
  unfold execInit
  cases draw : s.nextDraw with
  | success => exact (ensures_next _).mpr (.initDone event draw)
  | fail k => exact (ensures_next _).mpr (.initFailed k event draw)

theorem execLoad_effect (idx : BitVec 4) : Ensures (HasEffect init turn s) (execLoad idx s) := by
  refine inModes_ensures (fun idle => ?_) fun _ => .unchanged
  split <;> rw [ensures_next]
  · exact .loaded idx _ (List.mem_singleton.mp idle)
  · exact .unchanged

theorem execAbsorb_effect : Ensures (HasEffect init turn s) (execAbsorb s) := by
  refine inModes_ensures (fun idle => ?_) fun _ => .unchanged
  split
  case isTrue full =>
    split
    case isTrue readable =>
      refine andThen_ensures fun h hh => (ensures_next _).mpr ?_
      exact .captured h (List.mem_singleton.mp idle) full readable (written_eq_next hh)
    case isFalse => exact ensures_fault _
  case isFalse => exact (ensures_next _).mpr .unchanged

theorem execRead_effect (idx : BitVec 4) : Ensures (HasEffect init turn s) (execRead idx s) := by
  unfold execRead
  split
  · exact inModes_ensures (fun _ => andThen_ensures fun _ _ => (ensures_next _).mpr .unchanged) fun _ => .unchanged
  · exact (ensures_next _).mpr .unchanged

theorem execAbort_effect : Ensures (HasEffect init turn s) (execAbort s) :=
  inModes_ensures (fun busy => (ensures_next _).mpr (.aborted (List.mem_singleton.mp busy))) fun _ => .unchanged

theorem exec_effect (i : Instr) (event : i = .init → init) : Ensures (HasEffect init turn s) (exec i s) := by
  cases i
  case init => exact execInit_effect s (event rfl)
  case load idx => exact execLoad_effect s idx
  case absorb => exact execAbsorb_effect s
  case read idx => exact execRead_effect s idx
  case status => exact (ensures_next _).mpr .unchanged
  case abort => exact execAbort_effect s
  case and | or | xor | not | mux | triv | xork => exact finishGate_effect s _
  all_goals exact finishWord_effect s _

/-! #### The controller -/

theorem finishMicroStep_effect (commit : State → State) (mode : s.ST = .busy)
    (commits : s.nextDraw = .success → HasEffect init turn s (commit s.dropDraw)) :
    HasEffect init turn s (finishMicroStep s commit) := by
  cases h : s.nextDraw with
  | success => rw [finishMicroStep_success s commit h]; exact commits h
  | fail k => rw [finishMicroStep_fail s commit k h]; exact .blockFailed k h mode

/-- A feed-forward that goes on has read both files: its first line would fault on either. -/
theorem ffLines_run_reads {x : Circuit (List EWord)} (h : runLines s ffLines ⟨[], []⟩ = .next x) :
    ∃ h v, s.H = some h ∧ s.V = some v := by
  rw [ffLines_eq] at h
  obtain ⟨_, first, -⟩ := (andThen_eq_next _ _ _).mp h
  obtain ⟨_, reads, -⟩ := (andThen_eq_next _ _ _).mp first
  cases hH : s.H <;> cases hV : s.V <;> simp [readSrcs, readSrc, hH, hV] at reads ⊢

section
variable (event : turn) (mode : s.ST = .busy)
include event mode

theorem schedStep_effect (phase : s.PHASE = .sched) : Ensures (HasEffect init turn s) (schedStep s) := by
  unfold schedStep
  split
  · exact ensures_fault _
  · refine andThen_ensures fun x _ => ?_
    split
    · exact (ensures_next _).mpr (finishMicroStep_effect s _ mode fun draw => .scheduled _ event draw mode phase)
    · exact ensures_fault _

theorem roundStep_effect (phase : s.PHASE = .round) : Ensures (HasEffect init turn s) (roundStep s) := by
  refine andThen_ensures fun x _ => andThen_ensures fun v _ => ?_
  split
  · exact (ensures_next _).mpr (finishMicroStep_effect s _ mode fun draw => .rounded _ event draw mode phase)
  · exact ensures_fault _

theorem ffStep_effect (phase : s.PHASE = .ff) : Ensures (HasEffect init turn s) (ffStep s) := by
  refine andThen_ensures fun x hx => ?_
  obtain ⟨h, v, hH, hV⟩ := ffLines_run_reads s hx
  obtain ⟨y, hy, sums⟩ := ffLines_run s h v hH hV
  cases hx.symm.trans hy
  rw [sums]
  exact (ensures_next _).mpr
    (finishMicroStep_effect s _ mode fun draw => .committed h v event draw mode phase hH hV)

end

theorem microStep_effect (event : turn) : Ensures (HasEffect init turn s) (microStep s) := by
  by_cases mode : s.ST = .busy
  · cases phase : s.PHASE with
    | sched => rw [microStep_sched s mode phase]; exact schedStep_effect s event mode phase
    | round => rw [microStep_round s mode phase]; exact roundStep_effect s event mode phase
    | ff => rw [microStep_ff s mode phase]; exact ffStep_effect s event mode phase
  · rw [microStep_idle s mode]; exact (ensures_next _).mpr .unchanged

end

/-- All a step can do: one of the effects, whatever the state. -/
theorem step_effect (s : State) : Ensures (HasEffect s.InitNext s.TurnNext s) (step s) :=
  match step s, step_runs s with
  | _, .turn s' arch draw next => hasEffect_congr arch draw ▸ microStep_effect s' next
  | _, .instr i s' arch draw next => hasEffect_congr arch draw ▸ exec_effect s' i next
  | _, .illegal t arch => by rw [ensures_next, HasEffect, arch]; exact .unchanged
  | _, .reserved r => ensures_refused r

/-! ### `H` and ERR under the effects -/

section
variable {init turn : Prop} {d : Draw} {a b : State}

/-- R22, R58: of the effects only INIT's and the feed-forward's write `H`. -/
theorem Effect.writes_H (effect : Effect init turn d a b) (changed : b.H ≠ a.H) :
    init ∨ (turn ∧ a.ST = .busy ∧ a.PHASE = .ff ∧ d = .success ∧ b.ST = .idle ∧ b.ERR = .none ∧ b.LDMASK = 0 ∧
      ∃ h v, a.H = some h ∧ a.V = some v ∧ b.H = some (feedForward h v)) := by
  cases effect with
  | initDone event => exact .inl event
  | initFailed _ event => exact .inl event
  | committed h v event draw mode phase chain working =>
    exact .inr ⟨event, mode, phase, draw, rfl, rfl, rfl, h, v, chain, working, rfl⟩
  | _ => exact absurd rfl changed

theorem FailKind.code_not_refusal (k : FailKind) : k.code ∉ [Code.malformedInput, .illegalCommand, .protocol] := by
  cases k <;> decide

/-- R30: an effect that writes ERR writes 0, ABORTED or a failure's code. -/
theorem Effect.err_not_refusal (effect : Effect init turn d a b)
    (start : a.ERR ∉ [Code.malformedInput, .illegalCommand, .protocol]) :
    b.ERR ∉ [Code.malformedInput, .illegalCommand, .protocol] := by
  cases effect with
  | initDone | aborted | committed => simp
  | initFailed k | blockFailed k => exact k.code_not_refusal
  | unchanged | loaded | captured | scheduled | rounded => exact start

end

/-- Settles O47: the step's effect, read at `H`. -/
theorem chainingValueChangesOnlyByInitAndFeedForward : Obligations.ChainingValueChangesOnlyByInitAndFeedForward :=
  fun s t h => (step_effect s t h).writes_H

/-- Settles O50: the step's effect, read at ERR. -/
theorem refusalCodesNeverReachErr : Obligations.RefusalCodesNeverReachErr :=
  fun s t h => (step_effect s t h).err_not_refusal

end Sys2Proof.Machine

/-! # The engine's invariant -/

namespace Sys2Proof.Machine

/-! ### The invariant, by mode -/

section
variable {s : State}

/-- R30: the codes that ERR holds outside HALTED (R232, R233, R236 give HALTED its own). -/
theorem errHonest_running (mode : s.ST ≠ .halted) (err : s.ERR = .none ∨ s.ERR = .evaluationFailure) : ErrHonest s :=
  ⟨fun _ => err, fun h => absurd h mode⟩

theorem errHonest_halted (mode : s.ST = .halted)
    (err : s.ERR = .keyMismatch ∨ s.ERR = .evaluationFailure ∨ s.ERR = .aborted) : ErrHonest s :=
  ⟨fun h => absurd mode h, fun _ => err⟩

theorem engineInv_of_busy (mode : s.ST = .busy) (block : BlockOpen s) (mask : MaskHonest s)
    (err : ErrHonest s) : EngineInv s :=
  ⟨fun _ => block, fun h => absurd mode h, fun h => by simp [mode] at h, mask, err⟩

theorem engineInv_of_not_busy (mode : s.ST ≠ .busy) (closed : BlockClosed s) (chain : s.ST = .idle → s.H.isSome)
    (mask : MaskHonest s) (err : ErrHonest s) : EngineInv s :=
  ⟨fun h => absurd h mode, fun _ => closed, chain, mask, err⟩

theorem maskHonest_of_zero (h : s.LDMASK = 0) : MaskHonest s := fun i hi => by simp [h] at hi

end

/-- Settles O44: at reset no block is in flight, no word is loaded, and `H` holds the IV. -/
theorem invariantHoldsAtReset : Obligations.InvariantHoldsAtReset :=
  engineInv_of_not_busy (by decide) ⟨rfl, fun i => unwrittenFile_get 64 i i.isLt⟩ (fun _ => rfl) (maskHonest_of_zero rfl)
    (errHonest_running (by decide) (.inl rfl))

/-! ### Every effect keeps the invariant -/

section
variable (a : State)

/-- R241: whatever ends a block, `V` and `W` are dropped, so the rest is a matter of `H`, the mask and the code. -/
theorem endBlock_engineInv (m : Mode) (c : Code) (mode : m ≠ .busy) (chain : m = .idle → a.H.isSome) (mask : MaskHonest a)
    (err : ErrHonest (a.endBlock m c)) : EngineInv (a.endBlock m c) :=
  engineInv_of_not_busy mode ⟨rfl, fun i => unwrittenFile_get 64 i i.isLt⟩ chain mask err

theorem initDone_engineInv (h : Vector EWord 8) : EngineInv (a.initDone h) :=
  endBlock_engineInv _ _ _ nofun (fun _ => rfl) (maskHonest_of_zero rfl) (errHonest_running nofun (.inl rfl))

theorem initFailed_engineInv (k : FailKind) : EngineInv (a.initFailed k) :=
  endBlock_engineInv _ _ _ nofun nofun (maskHonest_of_zero rfl)
    (errHonest_halted rfl (by cases k; exacts [.inr (.inl rfl), .inl rfl]))

theorem commitBlock_engineInv (h : Vector EWord 8) : EngineInv (a.commitBlock h) :=
  endBlock_engineInv _ _ _ nofun (fun _ => rfl) (maskHonest_of_zero rfl) (errHonest_running nofun (.inl rfl))

theorem abort_engineInv (mask : MaskHonest a) : EngineInv (a.endBlock .halted .aborted) :=
  endBlock_engineInv _ _ _ nofun nofun mask (errHonest_halted rfl (.inr (.inr rfl)))

/-- R232, R233: EVALUATION_FAILURE leaves the engine IDLE, KEY_MISMATCH leaves it HALTED. -/
theorem failBlock_engineInv (k : FailKind) (chain : a.H.isSome) (mask : MaskHonest a) : EngineInv (a.failBlock k) := by
  cases k with
  | evaluationFailure =>
    exact endBlock_engineInv _ _ _ nofun (fun _ => chain) mask (errHonest_running nofun (.inr rfl))
  | keyMismatch => exact endBlock_engineInv _ _ _ nofun nofun mask (errHonest_halted rfl (.inl rfl))

/-- R202: the one mask bit LOAD sets is that of the word it writes. -/
theorem loadWord_maskHonest (i : BitVec 4) (w : EWord) (mask : MaskHonest a) : MaskHonest (a.loadWord i w) := by
  intro j hj
  by_cases hij : i.toNat = j.val
  · simp [hij]
  · have unset : (1#16 <<< i.toNat).getLsbD j.val ≠ true := by
      change (BitVec.twoPow 16 i.toNat).getLsbD j.val ≠ true
      simpa using Ne.symm hij
    rw [State.loadWord_LDMASK, BitVec.getLsbD_or, Bool.or_eq_true] at hj
    simpa [Vector.getElem_set, hij] using mask j (hj.resolve_right unset)

/-- R171: the capture writes the schedule words 0 to 15, which a readable buffer holds. -/
theorem capture_blockOpen (h : Vector EWord 8) (full : a.LDMASK = 0xFFFF) (readable : blockReadable a = true)
    (chain : a.H = some h) : BlockOpen (a.capture h) := by
  refine ⟨by simp [chain], rfl, full, fun _ => ⟨le_rfl, fun i hi => ?_⟩, fun h => absurd rfl h⟩
  have copied : (capturedW a)[i] = readM a i := (capturedW_get a i i.isLt).trans (if_pos hi)
  rw [State.capture_W, copied]
  exact (blockReadable_iff a).mp readable i hi

theorem writeW_scheduleWritten (w : EWord) (below : ScheduleWritten a a.T.val) :
    ScheduleWritten (a.writeW w) (a.T.val + 1) := by
  intro i hi
  by_cases hit : a.T.val = i.val
  · simp [hit]
  · simpa [Vector.getElem_set, hit] using below i (by omega)

/-- R176: the controller goes on from a schedule step to the next, or to the first round once the schedule is full. -/
theorem advance_sched_positionLegal (phase : a.PHASE = .sched) (start : 16 ≤ a.T.val)
    (schedule : ScheduleWritten a (a.T.val + 1)) : PositionLegal a.advance := by
  by_cases last : a.T = 63
  · have position : nextPosition a.PHASE a.T = (.round, 0) := by simp [phase, last, nextPosition]
    rw [PositionLegal, State.advance_PHASE, position]
    exact ⟨nofun, fun _ i _ => schedule i (by simp [last])⟩
  · have position : nextPosition a.PHASE a.T = (.sched, a.T + 1) := by simp [phase, last, nextPosition]
    have next : (a.T + 1).val = a.T.val + 1 := Fin.val_add_one_of_lt (Fin.lt_last_iff_ne_last.mpr last)
    rw [PositionLegal, State.advance_PHASE, State.advance_T, position, next]
    exact ⟨fun _ => ⟨by omega, schedule⟩, fun h => absurd rfl h⟩

/-- R176: from a round the controller goes on to a round or to the feed-forward, the schedule full all along. -/
theorem advance_round_positionLegal (phase : a.PHASE = .round) (schedule : ScheduleWritten a 64) :
    PositionLegal a.advance := by
  have next : (nextPosition a.PHASE a.T).1 ≠ .sched := by
    rw [phase, nextPosition]
    split <;> nofun
  exact ⟨fun h => absurd h next, fun _ => schedule⟩

end

/-- Every effect keeps the invariant, under its own guard. -/
theorem Effect.keeps_engineInv {init turn : Prop} {d : Draw} {a b : State} (effect : Effect init turn d a b)
    (inv : EngineInv a) : EngineInv b := by
  have ⟨opened, closed, idle, mask, err⟩ := inv
  cases effect with
  | unchanged => exact inv
  | initDone => exact initDone_engineInv a _
  | initFailed k => exact initFailed_engineInv a k
  | loaded i w mode =>
    have outside : a.ST ≠ .busy := by simp [mode]
    exact engineInv_of_not_busy outside (closed outside) idle (loadWord_maskHonest a i w mask) err
  | captured h mode full readable chain =>
    have ⟨running, _⟩ := err
    exact engineInv_of_busy rfl (capture_blockOpen a h full readable chain) mask
      (errHonest_running nofun (running (by simp [mode])))
  | aborted => exact abort_engineInv a mask
  | blockFailed k _ mode =>
    obtain ⟨chain, -⟩ := opened mode
    exact failBlock_engineInv a k chain mask
  | scheduled w _ _ mode phase =>
    obtain ⟨chain, working, full, position, -⟩ := opened mode
    obtain ⟨start, schedule⟩ := position phase
    exact engineInv_of_busy mode ⟨chain, working, full,
      advance_sched_positionLegal (a.writeW w) phase start (writeW_scheduleWritten a w schedule)⟩ mask err
  | rounded v _ _ mode phase =>
    obtain ⟨chain, -, full, -, position⟩ := opened mode
    have schedule := position (by simp [phase])
    exact engineInv_of_busy mode ⟨chain, rfl, full, advance_round_positionLegal (a.writeV v) phase schedule⟩ mask err
  | committed h v => exact commitBlock_engineInv a _

/-- Settles O45: the invariant speaks of the architectural state only, and every effect on that keeps it. -/
theorem stepKeepsTheInvariant : Obligations.StepKeepsTheInvariant :=
  fun s t inv h => (step_effect s t h).keeps_engineInv inv

/-! ### No fault from a state of the invariant -/

/-- R200: a command refused for the mode is answered, so only the accepted one is left. -/
theorem inModes_answers {modes : List Mode} {s : State} {body : Host.Outcome State Fault Refusal}
    (accepted : s.ST ∈ modes → ∃ t, body = .next t) : ∃ t, inModes modes s body = .next t := by
  by_cases h : s.ST ∈ modes
  · rw [inModes_accept _ _ _ h]; exact accepted h
  · exact ⟨_, inModes_refuse _ _ _ h⟩

section
variable {s : State} (inv : EngineInv s)
include inv

/-- R203, U11: a full buffer is a readable one, since a set mask bit is an honest one. -/
theorem blockReadable_of_full (full : s.LDMASK = 0xFFFF) : blockReadable s = true := by
  obtain ⟨-, -, -, mask, -⟩ := inv
  refine (blockReadable_iff s).mpr fun i hi => ?_
  have set : s.LDMASK.getLsbD i = true := by
    rw [full]
    interval_cases i <;> rfl
  obtain ⟨w, hw⟩ := Option.isSome_iff_exists.mp (mask ⟨i, hi⟩ set)
  rw [(readM_eq_some s i w).mpr ⟨hi, set, hw⟩]
  rfl

theorem chain_of_idle (mode : s.ST ∈ [Mode.idle]) : ∃ h, s.H = some h := by
  obtain ⟨-, -, idle, -⟩ := inv
  exact Option.isSome_iff_exists.mp (idle (List.mem_singleton.mp mode))

theorem execAbsorb_answers : ∃ t, execAbsorb s = .next t := by
  refine inModes_answers fun idle => ?_
  obtain ⟨h, hh⟩ := chain_of_idle inv idle
  split
  case isTrue full => rw [if_pos (blockReadable_of_full inv full), hh]; exact ⟨_, rfl⟩
  case isFalse => exact ⟨_, rfl⟩

theorem execRead_answers (idx : BitVec 4) : ∃ t, execRead idx s = .next t := by
  unfold execRead
  split
  · refine inModes_answers fun idle => ?_
    obtain ⟨h, hh⟩ := chain_of_idle inv idle
    rw [hh]
    exact ⟨_, rfl⟩
  · exact ⟨_, rfl⟩

theorem exec_answers (i : Instr) : ∃ t, exec i s = .next t := by
  cases i
  case absorb => exact execAbsorb_answers inv
  case read idx => exact execRead_answers inv idx
  case load idx => exact inModes_answers fun _ => by split <;> exact ⟨_, rfl⟩
  case abort => exact inModes_answers fun _ => ⟨_, rfl⟩
  all_goals exact ⟨_, rfl⟩

/-- R32, R176: in BUSY the micro-step at the position finds all that it reads written. -/
theorem microStep_answers : ∃ t, microStep s = .next t := by
  by_cases mode : s.ST = .busy
  case neg => exact ⟨s, microStep_idle s mode⟩
  obtain ⟨opened, -⟩ := inv
  obtain ⟨chain, working, -, inSched, afterSched⟩ := opened mode
  obtain ⟨h, hh⟩ := Option.isSome_iff_exists.mp chain
  obtain ⟨v, hv⟩ := Option.isSome_iff_exists.mp working
  cases phase : s.PHASE with
  | sched =>
    obtain ⟨start, schedule⟩ := inSched phase
    have reads (back : Nat) (hb : 1 ≤ back) (hb' : back ≤ 16) : ∃ w, readW s (s.T.val - back) = some w := by
      have := s.T.isLt
      rw [readW_fin s ⟨s.T.val - back, by omega⟩]
      exact Option.isSome_iff_exists.mp (schedule _ (show s.T.val - back < s.T.val by omega))
    obtain ⟨w2, h2⟩ := reads 2 (by decide) (by decide)
    obtain ⟨w7, h7⟩ := reads 7 (by decide) (by decide)
    obtain ⟨w15, h15⟩ := reads 15 (by decide) (by decide)
    obtain ⟨w16, h16⟩ := reads 16 (by decide) (by decide)
    exact ⟨_, (microStep_sched s mode phase).trans (schedStep_next s w2 w7 w15 w16 start h2 h7 h15 h16)⟩
  | round =>
    obtain ⟨w, hw⟩ := Option.isSome_iff_exists.mp (afterSched (by simp [phase]) s.T s.T.isLt)
    exact ⟨_, (microStep_round s mode phase).trans (roundStep_next s v w hv ((readW_fin s s.T).trans hw))⟩
  | ff => exact ⟨_, (microStep_ff s mode phase).trans (ffStep_next s h v hh hv)⟩

end

/-- The invariant reads the architectural state only. -/
theorem engineInv_congr {s s' : State} (arch : s'.arch = s.arch) (inv : EngineInv s) : EngineInv s' := by
  change EngineInv s'.arch
  rwa [arch]

/-- Settles O46: from a state of the invariant an instruction and the controller's turn answer a next state. -/
theorem noStepFaults : Obligations.NoStepFaults := by
  intro s r inv
  match step s, step_runs s with
  | _, .turn s' arch _ _ => obtain ⟨t, ht⟩ := microStep_answers (engineInv_congr arch inv); rw [ht]; nofun
  | _, .instr i s' arch _ _ => obtain ⟨t, ht⟩ := exec_answers (engineInv_congr arch inv) i; rw [ht]; nofun
  | _, .illegal t _ => nofun
  | _, .reserved _ => nofun

end Sys2Proof.Machine

/-! # A block in flight -/

namespace Sys2Proof.Machine

/-! ### The message schedule of R181 -/

/-- The 64 schedule words of a block. -/
abbrev blockSchedule (m : Vector EWord 16) : List EWord := scheduleTo m.toList 48

theorem scheduleTo_length (m : List EWord) (n : Nat) : (scheduleTo m n).length = m.length + n := by
  induction n with
  | zero => rfl
  | succ n ih => simp [scheduleTo, ih, Nat.add_assoc]

/-- The schedule grows at its end, so a word once there stays. -/
theorem scheduleTo_getD_of_le {m : List EWord} {n k i : Nat} (hnk : n ≤ k) (hi : i < m.length + n) :
    (scheduleTo m k).getD i 0 = (scheduleTo m n).getD i 0 := by
  induction k, hnk using Nat.le_induction with
  | base => rfl
  | succ k hnk ih =>
    have inside : i < (scheduleTo m k).length := by rw [scheduleTo_length]; omega
    rw [scheduleTo, List.getD_append _ _ _ _ inside, ih]

section
variable (m : Vector EWord 16)

theorem blockSchedule_message {i : Nat} (hi : i < 16) : (blockSchedule m).getD i 0 = m[i] := by
  rw [blockSchedule, scheduleTo_getD_of_le (Nat.zero_le 48) (by simpa using hi), scheduleTo]
  simp [hi]

theorem blockSchedule_recurrence {n : Nat} (hn : n < 48) :
    (blockSchedule m).getD (16 + n) 0 =
      scheduleWord ((blockSchedule m).getD (n + 14) 0) ((blockSchedule m).getD (n + 9) 0)
        ((blockSchedule m).getD (n + 1) 0) ((blockSchedule m).getD n 0) := by
  have settled {k i : Nat} (hk : k ≤ 48) (hi : i < 16 + k) :
      (blockSchedule m).getD i 0 = (scheduleTo m.toList k).getD i 0 :=
    scheduleTo_getD_of_le hk (by simpa using hi)
  have before : (scheduleTo m.toList n).length = 16 + n := by simp [scheduleTo_length]
  rw [settled (k := n + 1) hn (by omega), scheduleTo, List.getD_append_right _ _ _ _ before.le, before, Nat.sub_self,
    List.getD_cons_zero, settled hn.le, settled hn.le, settled hn.le, settled hn.le] <;> omega

end

/-! ### The state after `n` micro-steps -/

/-- R176: where the controller is after `n` micro-steps of a block. -/
def blockPosition (n : Nat) : Phase × Fin 64 :=
  if n < 48 then (.sched, Fin.ofNat 64 (16 + n)) else if n < 112 then (.round, Fin.ofNat 64 (n - 48)) else (.ff, 63)

/-- `W` after `n` micro-steps of a block: the schedule so far, over what stood there before. -/
def blockW (old : Vector (Option EWord) 64) (m : Vector EWord 16) (n : Nat) : Vector (Option EWord) 64 :=
  Vector.ofFn fun i => if i.val < 16 + n then some ((blockSchedule m).getD i 0) else old[i]

/-- `s` with a block on `h` and `m` in flight, `n` micro-steps done (R171 to R173, R176): the state in full, so that what a block
has written so far, and what it leaves alone, is read off it. -/
def State.inBlock (s : State) (h : Vector EWord 8) (m : Vector EWord 16) (n : Nat) : State :=
  { s with
    ST := .busy, PHASE := (blockPosition n).1, T := (blockPosition n).2, W := blockW s.W m n,
    V := some (roundsTo h (blockSchedule m) (n - 48)) }

theorem blockPosition_sched {n : Nat} (hn : n < 48) : blockPosition n = (.sched, Fin.ofNat 64 (16 + n)) := if_pos hn

theorem blockPosition_round {n : Nat} (hs : 48 ≤ n) (hr : n < 112) : blockPosition n = (.round, Fin.ofNat 64 (n - 48)) := by
  rw [blockPosition, if_neg (by omega), if_pos hr]

/-- R176: the controller's moves through a block. -/
theorem nextPosition_blockPosition :
    ∀ n < 112, nextPosition (blockPosition n).1 (blockPosition n).2 = blockPosition (n + 1) := by
  decide

section
variable (old : Vector (Option EWord) 64) (m : Vector EWord 16)

theorem blockW_get (n : Nat) {i : Nat} (hi : i < 64) :
    (blockW old m n)[i] = if i < 16 + n then some ((blockSchedule m).getD i 0) else old[i] := by
  simp [blockW]

theorem blockW_set {n : Nat} (hn : 16 + n < 64) :
    (blockW old m n).set (16 + n) (some ((blockSchedule m).getD (16 + n) 0)) hn = blockW old m (n + 1) := by
  ext1 i hi
  rw [Vector.getElem_set, blockW_get, blockW_get]
  by_cases here : 16 + n = i
  · subst here; simp
  · simp only [if_neg here, show i < 16 + (n + 1) ↔ i < 16 + n by omega]

/-- R172: once the schedule is full no micro-step changes it. -/
theorem blockW_full {n : Nat} (hn : 48 ≤ n) : blockW old m (n + 1) = blockW old m n := by
  ext1 i hi
  rw [blockW_get, blockW_get, if_pos (by omega), if_pos (by omega)]

end

section
variable (s : State) (h : Vector EWord 8) (m : Vector EWord 16)

theorem readW_inBlock {n i : Nat} (hi : i < 64) (before : i < 16 + n) :
    readW (s.inBlock h m n) i = some ((blockSchedule m).getD i 0) := by
  rw [readW, dif_pos hi]
  exact (blockW_get s.W m n hi).trans (if_pos before)

theorem readM_of_full (mask : s.LDMASK = 0xFFFF) (message : ∀ i : Fin 16, s.M[i] = some m[i]) {i : Nat} (hi : i < 16) :
    readM s i = some m[i] :=
  (readM_eq_some s i _).mpr ⟨hi, by rw [mask]; interval_cases i <;> rfl, message ⟨i, hi⟩⟩

/-- R171: the capture of a full buffer starts a block. -/
theorem capture_eq_inBlock (mask : s.LDMASK = 0xFFFF) (message : ∀ i : Fin 16, s.M[i] = some m[i]) :
    s.capture h = s.inBlock h m 0 := by
  have copied : capturedW s = blockW s.W m 0 := by
    ext1 i hi
    rw [capturedW_get, blockW_get]
    by_cases inMessage : i < 16
    · rw [if_pos inMessage, if_pos inMessage, readM_of_full s m mask message inMessage, blockSchedule_message m inMessage]
    · rw [if_neg inMessage, if_neg inMessage]
  rw [State.capture, copied]
  rfl

end

/-! ### One micro-step of a block -/

/-- R176: from the position of `n` micro-steps the controller advances to the next. -/
theorem advance_blockPosition {s : State} {n : Nat} (hn : n < 112) (phase : s.PHASE = (blockPosition n).1)
    (round : s.T = (blockPosition n).2) :
    s.advance = { s with PHASE := (blockPosition (n + 1)).1, T := (blockPosition (n + 1)).2 } := by
  rw [State.advance, phase, round, nextPosition_blockPosition n hn]

section
variable (s : State) (h : Vector EWord 8) (m : Vector EWord 16) {n : Nat}

theorem T_inBlock_sched (hn : n < 48) : (s.inBlock h m n).T.val = 16 + n := by
  rw [State.inBlock, blockPosition_sched hn]
  exact Nat.mod_eq_of_lt (by omega)

theorem T_inBlock_round (hs : 48 ≤ n) (hr : n < 112) : (s.inBlock h m n).T.val = n - 48 := by
  rw [State.inBlock, blockPosition_round hs hr]
  exact Nat.mod_eq_of_lt (by omega)

/-- R172: the next schedule word continues the block. -/
theorem writeW_inBlock (hn : n < 48) :
    ((s.inBlock h m n).writeW ((blockSchedule m).getD (16 + n) 0)).advance = s.inBlock h m (n + 1) := by
  have schedule := blockW_set s.W m (n := n) (by omega)
  rw [advance_blockPosition (by omega) rfl rfl]
  simp only [State.writeW, T_inBlock_sched s h m hn]
  rw [show (s.inBlock h m n).W = blockW s.W m n from rfl, schedule]
  simp only [State.inBlock, show n - 48 = 0 by omega, show n + 1 - 48 = 0 by omega]

/-- R173: the next round continues the block. -/
theorem writeV_inBlock (hs : 48 ≤ n) (hr : n < 112) :
    ((s.inBlock h m n).writeV (roundsTo h (blockSchedule m) (n + 1 - 48))).advance = s.inBlock h m (n + 1) := by
  rw [advance_blockPosition hr rfl rfl, State.inBlock, State.inBlock, blockW_full s.W m hs]
  rfl

variable {s} (draw : s.nextDraw = .success)
include draw

/-- R172: a schedule micro-step of a block writes the next schedule word. -/
theorem schedStep_inBlock (hn : n < 48) : schedStep (s.inBlock h m n) = .next (s.dropDraw.inBlock h m (n + 1)) := by
  have position := T_inBlock_sched s h m hn
  have reads {back i : Nat} (hi : i + back = 16 + n) (hb : 1 ≤ back) :
      readW (s.inBlock h m n) ((s.inBlock h m n).T.val - back) = some ((blockSchedule m).getD i 0) := by
    rw [position, ← hi, Nat.add_sub_cancel]
    exact readW_inBlock s h m (by omega) (by omega)
  rw [schedStep_next _ _ _ _ _ (by omega) (reads (i := n + 14) (by omega) (by omega)) (reads (i := n + 9) (by omega) (by omega))
      (reads (i := n + 1) (by omega) (by omega)) (reads (i := n) (by omega) (by omega)),
    finishMicroStep_success (s.inBlock h m n) _ draw, ← blockSchedule_recurrence m hn]
  exact congrArg _ (writeW_inBlock s.dropDraw h m hn)

/-- R173: a round micro-step of a block does the next round. -/
theorem roundStep_inBlock (hs : 48 ≤ n) (hr : n < 112) :
    roundStep (s.inBlock h m n) = .next (s.dropDraw.inBlock h m (n + 1)) := by
  have position := T_inBlock_round s h m hs hr
  have read : readW (s.inBlock h m n) (s.inBlock h m n).T.val = some ((blockSchedule m).getD (n - 48) 0) := by
    rw [position]
    exact readW_inBlock s h m (by omega) (by omega)
  have constant : kRom[(s.inBlock h m n).T] = kRom.toList.getD (n - 48) 0 := by
    rw [Fin.getElem_fin]
    simp only [position]
    simp [show n - 48 < 64 by omega]
  have next : roundsTo h (blockSchedule m) (n + 1 - 48) =
      roundValue (roundsTo h (blockSchedule m) (n - 48)) kRom[(s.inBlock h m n).T] ((blockSchedule m).getD (n - 48) 0) := by
    rw [constant, Nat.sub_add_comm hs, roundsTo]
  rw [roundStep_next _ _ _ rfl read, finishMicroStep_success (s.inBlock h m n) _ draw, ← next]
  exact congrArg _ (writeV_inBlock s.dropDraw h m hs hr)

/-- R176: a successful micro-step before the feed-forward takes a block from its `n`-th state to the next. -/
theorem microStep_inBlock (hn : n < 112) : microStep (s.inBlock h m n) = .next (s.dropDraw.inBlock h m (n + 1)) := by
  by_cases hs : n < 48
  · exact (microStep_sched _ rfl (congrArg Prod.fst (blockPosition_sched hs))).trans (schedStep_inBlock h m draw hs)
  · exact (microStep_round _ rfl (congrArg Prod.fst (blockPosition_round (by omega) hn))).trans
      (roundStep_inBlock h m draw (by omega) hn)

end

/-! ### A run of micro-steps -/

theorem run_succ {s t : State} (n : Nat) (h : step s = .next t) : core.run (n + 1) s = core.run n t := by
  have first : core.step s = .next t := h
  simp only [Host.Core.run, first]

/-- A run follows a sequence of states in which each steps to the next. -/
theorem run_of_steps {n : Nat} (f : Nat → State) (steps : ∀ i < n, step (f i) = .next (f (i + 1))) :
    core.run n (f 0) = .next (f n) := by
  induction n generalizing f with
  | zero => rfl
  | succ n ih =>
    rw [run_succ n (steps 0 n.succ_pos)]
    exact ih (fun i => f (i + 1)) fun i hi => steps (i + 1) (by omega)

/-- `s` after its next `n` events and draws are used up. -/
def State.consumed (s : State) (n : Nat) : State := { s with pending := s.pending.drop n, draws := s.draws.drop n }

theorem nextDraw_consumed {s : State} {k n : Nat} (draws : DrawsSucceed s k) (hn : n < k) :
    (s.consumed n).nextDraw = .success := by
  cases hd : s.draws.drop n with
  | nil => exact nextDraw_nil _ hd
  | cons d ds =>
    rw [nextDraw_cons (s.consumed n) d ds hd]
    have answer : s.draws[n]? = some d := by rw [← Nat.add_zero n, ← List.getElem?_drop, hd]; rfl
    exact draws d (List.mem_of_getElem? ((List.getElem?_take_of_lt hn).trans answer))

section
variable {s : State} {k : Nat} {es : List Event} (h : Vector EWord 8) (m : Vector EWord 16)
  (events : s.pending = List.replicate k .microStep ++ es) (draws : DrawsSucceed s k)
include events draws

/-- R176: the controller's turn on a block whose next event and draw let it go on. -/
theorem step_consumed_inBlock {n : Nat} (hk : n < k) (hn : n < 112) :
    step ((s.consumed n).inBlock h m n) = .next ((s.consumed (n + 1)).inBlock h m (n + 1)) := by
  have turn : ((s.consumed n).inBlock h m n).pending = .microStep :: (s.consumed (n + 1)).pending := by
    change s.pending.drop n = .microStep :: s.pending.drop (n + 1)
    have inside : n < s.pending.length := by rw [events]; simp; omega
    rw [List.drop_eq_getElem_cons inside]
    simp [events, hk]
  rw [step_microStep _ _ turn]
  refine (microStep_inBlock (s := { s.consumed n with pending := (s.consumed (n + 1)).pending }) h m
    (nextDraw_consumed draws hk) hn).trans ?_
  simp [State.dropDraw, State.consumed]

/-- R176: `n` successful micro-steps take a block from its capture to its `n`-th position. -/
theorem run_inBlock {n : Nat} (hk : n ≤ k) (hn : n ≤ 112) :
    core.run n (s.inBlock h m 0) = .next ((s.consumed n).inBlock h m n) :=
  run_of_steps (fun i => (s.consumed i).inBlock h m i) fun i hi =>
    step_consumed_inBlock h m events draws (by omega) (by omega)

end

/-! ### The start of a block -/

/-- R171, R203: ABSORB of a full buffer starts the block on `H` and `M`. -/
theorem execAbsorb_inBlock {s : State} {h : Vector EWord 8} {m : Vector EWord 16} (mode : s.ST = .idle)
    (mask : s.LDMASK = 0xFFFF) (chain : s.H = some h) (message : ∀ i : Fin 16, s.M[i] = some m[i]) :
    execAbsorb s = .next ((s.respond .none .empty).inBlock h m 0) := by
  have readable : blockReadable s = true :=
    (blockReadable_iff s).mpr fun i hi => Option.isSome_of_eq_some (readM_of_full s m mask message hi)
  rw [execAbsorb, inModes_accept _ _ _ (List.mem_singleton.mpr mode), if_pos mask, if_pos readable, chain, written_some,
    andThen_next, capture_eq_inBlock s h m mask message]
  rfl

/-- `s` with ABSORB taken and answered, and the events `es` to come (R203). -/
def State.absorbed (s : State) (data : List EBit) (es : List Event) : State :=
  ({ s with pending := es, data := data } : State).respond .none .empty

theorem step_absorb {s : State} {data : List EBit} {es : List Event} {h : Vector EWord 8} {m : Vector EWord 16}
    (event : s.pending = .command 0x30000000 data :: es) (mode : s.ST = .idle) (mask : s.LDMASK = 0xFFFF)
    (chain : s.H = some h) (message : ∀ i : Fin 16, s.M[i] = some m[i]) :
    step s = .next ((s.absorbed data es).inBlock h m 0) :=
  (step_command event (i := .absorb) (by decide)).trans
    (execAbsorb_inBlock (s := { s with pending := es, data := data }) mode mask chain message)

/-- Settles O53: after ABSORB and `n` micro-steps the engine is in the block's `n`-th state, which is `s` in `H`, `M`, LDMASK and
ERR. -/
theorem chainingValueUntouchedDuringTheBlock : Obligations.ChainingValueUntouchedDuringTheBlock := by
  intro s data es h m n event mode mask chain message draws hn
  have absorb := step_absorb event mode mask chain message
  have block := run_inBlock (s := s.absorbed data (List.replicate 113 .microStep ++ es)) h m rfl draws hn.le (by omega)
  exact ⟨_, (run_succ n absorb).trans block, rfl, chain, rfl, mask, rfl⟩

end Sys2Proof.Machine

/-! # The digest -/

namespace Sys2Proof.Machine

theorem digestBits_length (ws : List EWord) : (digestBits ws).length = 32 * ws.length := by
  simp [digestBits, Nat.mul_comm]

/-- R54: bit `32j + i` of the digest is bit `i` of word `j`. -/
theorem digestBits_getElem? {ws : List EWord} {w : EWord} {j i : Nat} (word : ws[j]? = some w) (hi : i < 32) :
    (digestBits ws)[32 * j + i]? = some (bitAt w i) := by
  induction ws generalizing j with
  | nil => cases word
  | cons x ws ih =>
    rw [digestBits, List.flatMap_cons, ← digestBits]
    cases j with
    | zero =>
      cases word
      simp [List.getElem?_append_left, hi, bitAt]
    | succ j =>
      have later : 32 * (j + 1) + i - 32 = 32 * j + i := by omega
      rw [List.getElem?_append_right (by simp; omega), List.length_map, List.length_range, later, ih word]

/-- R215: a byte of the digest lies in one word. -/
theorem digestByte_digestBits {ws : List EWord} {w : EWord} {j : Nat} (word : ws[j / 4]? = some w) :
    digestByte (digestBits ws) j = byteOfWord w (j % 4) := by
  have bits : ((digestBits ws).drop (8 * j)).take 8 = (List.range 8).map fun k => bitAt w (8 * (j % 4) + k) := by
    refine List.ext_getElem? fun k => ?_
    by_cases hk : k < 8
    · have place : 8 * j + k = 32 * (j / 4) + (8 * (j % 4) + k) := by omega
      rw [List.getElem?_take_of_lt hk, List.getElem?_drop, place, digestBits_getElem? word (by omega)]
      simp [hk]
    · rw [List.getElem?_eq_none (by simp; omega), List.getElem?_eq_none (by simp; omega)]
  rw [digestByte, bits, byteOfWord]

/-- Settles O59: a bit and a byte of the digest lie in one word, and 256 bits are decrypted. -/
theorem digestBytesAreBigEndian : Obligations.DigestBytesAreBigEndian := by
  have word (h : Vector EWord 8) (i : Nat) (hi : i < 8) : h.toList[i]? = some h[i] := by simp [hi]
  refine ⟨fun h k => ?_, fun h => ?_, fun bits length => if_neg length⟩
  · have bit := digestBits_getElem? (word h (k.val / 32) (by omega)) (Nat.mod_lt k.val (by decide : 32 > 0))
    rwa [Nat.div_add_mod] at bit
  · have length : (digestBits h.toList).length = 256 := by rw [digestBits_length, Vector.length_toList]
    refine ⟨_, if_pos length, by simp, fun j => ?_⟩
    simpa using digestByte_digestBits (word h (j.val / 4) (by omega))

end Sys2Proof.Machine

/-! # Encodings -/

namespace Sys2Proof

/-! ### The fields of an encoded word (R71, R80, R85) -/

theorem cmd_fields_append (op : BitVec 4) (rsv : BitVec 24) (idx : BitVec 4) :
    cmdOp (op ++ rsv ++ idx) = op ∧ cmdRsv (op ++ rsv ++ idx) = rsv ∧ cmdIdx (op ++ rsv ++ idx) = idx := by
  obtain ⟨high, hidx⟩ := (append_eq_append ..).mp (cmd_fields (op ++ rsv ++ idx))
  obtain ⟨hop, hrsv⟩ := (append_eq_append ..).mp high
  exact ⟨hop.symm, hrsv.symm, hidx.symm⟩

/-- R80: a GATE8 byte as its fields, KB as a truth value. -/
theorem gate_fields_kb (b : BitVec 8) : b = gateOp b ++ gateRsv b ++ BitVec.ofBool (gateKb b) := by
  have kb : b.extractLsb' 0 1 = BitVec.ofBool (gateKb b) :=
    BitVec.eq_of_getLsbD_eq fun i hi => by simp [gateKb, show i = 0 by omega]
  exact kb ▸ gate_fields b

theorem gate_fields_append (op : BitVec 4) (rsv : BitVec 3) (kb : Bool) :
    gateOp (op ++ rsv ++ BitVec.ofBool kb) = op ∧ gateRsv (op ++ rsv ++ BitVec.ofBool kb) = rsv ∧
      gateKb (op ++ rsv ++ BitVec.ofBool kb) = kb := by
  obtain ⟨high, hkb⟩ := (append_eq_append ..).mp (gate_fields_kb (op ++ rsv ++ BitVec.ofBool kb))
  obtain ⟨hop, hrsv⟩ := (append_eq_append ..).mp high
  exact ⟨hop.symm, hrsv.symm, (BitVec.ofBool_eq_iff_eq.mp hkb).symm⟩

theorem uop_fields_append (op n : BitVec 5) (rsv : BitVec 6) :
    uopOp (op ++ n ++ rsv) = op ∧ uopN (op ++ n ++ rsv) = n ∧ uopRsv (op ++ n ++ rsv) = rsv := by
  obtain ⟨high, hrsv⟩ := (append_eq_append ..).mp (uop_fields (op ++ n ++ rsv))
  obtain ⟨hop, hn⟩ := (append_eq_append ..).mp high
  exact ⟨hop.symm, hn.symm, hrsv.symm⟩

/-! ### Decode after encode -/

theorem decode_cmdWord (op idx : BitVec 4) : decode (cmdWord op idx) = decodeCommandFields op idx := by
  obtain ⟨hop, hrsv, hidx⟩ := cmd_fields_append op 0 idx
  rw [cmdWord, decode, cmdBits, decodeCmd32, if_pos hrsv, hop, hidx]

theorem decode_gateByte (op : BitVec 4) (kb : Bool) : decode (gateByte op kb) = decodeGateFields op kb := by
  obtain ⟨hop, hrsv, hkb⟩ := gate_fields_append op 0 kb
  rw [gateByte, decode, decodeGate8, if_pos hrsv, hop, hkb]

theorem decode_uopWord (op n : BitVec 5) : decode (uopWord op n) = decodeUopFields op n := by
  obtain ⟨hop, hn, hrsv⟩ := uop_fields_append op n 0
  rw [uopWord, decode, decodeUop16, if_pos hrsv, hop, hn]

/-- Settles O2: the decoder finds the fields the encoder wrote, and each opcode's branch of its map answers the instruction; READ's
also asks for the index that `wellFormed` grants. -/
theorem decodeOfEncodeIsTheInstruction : Obligations.DecodeOfEncodeIsTheInstruction := by
  intro i wf
  cases i
  case read idx => exact (decode_cmdWord 4 idx).trans (if_pos (of_decide_eq_true wf))
  case init | load | absorb | status | abort => exact decode_cmdWord _ _
  case and | or | xor | not | mux | triv | xork => exact decode_gateByte _ _
  all_goals exact decode_uopWord _ _

/-! ### Encode after decode -/

/-- What a decoder may answer for the word `e`: a rejection, or a well-formed instruction whose encoding `e` is. -/
def Reads (e : Encoded) (o : Except Reject Instr) : Prop := ∀ i, o = .ok i → encode i = e ∧ i.wellFormed = true

section
variable {e : Encoded}

theorem reads_error (r : Reject) : Reads e (.error r) := nofun

theorem reads_ok {i : Instr} (code : encode i = e) (wf : i.wellFormed = true) : Reads e (.ok i) := by
  intro j h
  cases h
  exact ⟨code, wf⟩

theorem reads_ite {c : Prop} [Decidable c] {x y : Except Reject Instr} (hx : c → Reads e x) (hy : Reads e y) :
    Reads e (if c then x else y) :=
  iteInduction hx fun _ => hy

end

theorem commandNoIndex_reads {op : BitVec 4} {i : Instr} (code : encode i = cmdWord op 0) (wf : i.wellFormed = true)
    (idx : BitVec 4) : Reads (cmdWord op idx) (commandNoIndex idx i) :=
  reads_ite (fun h => reads_ok (h ▸ code) wf) (reads_error _)

theorem gateNoConstant_reads {op : BitVec 4} {i : Instr} (code : encode i = gateByte op false) (wf : i.wellFormed = true)
    (kb : Bool) : Reads (gateByte op kb) (gateNoConstant kb i) := by
  cases kb
  · exact reads_ok code wf
  · exact reads_error _

theorem uopNoAmount_reads {op : BitVec 5} {i : Instr} (code : encode i = uopWord op 0) (wf : i.wellFormed = true)
    (n : BitVec 5) : Reads (uopWord op n) (uopNoAmount n i) :=
  reads_ite (fun h => reads_ok (h ▸ code) wf) (reads_error _)

theorem decodeCommandFields_reads (op idx : BitVec 4) : Reads (cmdWord op idx) (decodeCommandFields op idx) := by
  unfold decodeCommandFields
  refine reads_ite (fun hop => hop ▸ commandNoIndex_reads rfl rfl idx) ?_
  refine reads_ite (fun hop => hop ▸ reads_ok rfl rfl) ?_
  refine reads_ite (fun hop => hop ▸ commandNoIndex_reads rfl rfl idx) ?_
  refine reads_ite (fun hop => hop ▸ reads_ite (fun index => reads_ok rfl (decide_eq_true index)) (reads_error _)) ?_
  iterate 2 refine reads_ite (fun hop => hop ▸ commandNoIndex_reads rfl rfl idx) ?_
  exact reads_error _

theorem decodeGateFields_reads (op : BitVec 4) (kb : Bool) : Reads (gateByte op kb) (decodeGateFields op kb) := by
  unfold decodeGateFields
  iterate 5 refine reads_ite (fun hop => hop ▸ gateNoConstant_reads rfl rfl kb) ?_
  iterate 2 refine reads_ite (fun hop => hop ▸ reads_ok rfl rfl) ?_
  exact reads_error _

theorem decodeUopFields_reads (op n : BitVec 5) : Reads (uopWord op n) (decodeUopFields op n) := by
  unfold decodeUopFields
  iterate 3 refine reads_ite (fun hop => hop ▸ uopNoAmount_reads rfl rfl n) ?_
  iterate 2 refine reads_ite (fun hop => hop ▸ reads_ok rfl rfl) ?_
  iterate 7 refine reads_ite (fun hop => hop ▸ uopNoAmount_reads rfl rfl n) ?_
  exact reads_error _

theorem decode_reads (e : Encoded) : Reads e (decode e) := by
  cases e with
  | cmd32 w =>
    refine reads_ite (fun hrsv => ?_) (reads_error _)
    have word : cmdWord (cmdOp w) (cmdIdx w) = .cmd32 w := by rw [cmdWord, cmdBits, ← hrsv, ← cmd_fields]
    exact word ▸ decodeCommandFields_reads _ _
  | gate8 b =>
    refine reads_ite (fun hrsv => ?_) (reads_error _)
    have byte : gateByte (gateOp b) (gateKb b) = .gate8 b := by rw [gateByte, ← hrsv, ← gate_fields_kb]
    exact byte ▸ decodeGateFields_reads _ _
  | uop16 w =>
    refine reads_ite (fun hrsv => ?_) (reads_error _)
    have word : uopWord (uopOp w) (uopN w) = .uop16 w := by rw [uopWord, ← hrsv, ← uop_fields]
    exact word ▸ decodeUopFields_reads _ _

/-- Settles O3: every branch of the three opcode maps rejects, or answers the instruction whose encoding holds the fields read. -/
theorem decodedWordIsItsEncoding : Obligations.DecodedWordIsItsEncoding := decode_reads

end Sys2Proof

/-! # The match and mask rows -/

namespace Sys2Proof

/-! ### At most one row fits -/

/-- Two rows ask for different values of the bits that both their masks keep. -/
abbrev Row.Excludes {n : Nat} (r q : Row n) : Prop := r.pattern &&& q.mask ≠ q.pattern &&& r.mask

theorem Row.Excludes.not_fits {n : Nat} {r q : Row n} {w : BitVec n} (excludes : r.Excludes q) (hr : r.fits w = true) :
    q.fits w ≠ true := by
  intro hq
  have hr := beq_iff_eq.mp hr
  have hq := beq_iff_eq.mp hq
  exact excludes (by rw [← hr, ← hq, BitVec.and_assoc, BitVec.and_assoc, BitVec.and_comm r.mask])

theorem matchCount_le_one {n : Nat} {rows : List (Row n)} (apart : rows.Pairwise Row.Excludes) (w : BitVec n) :
    matchCount rows w ≤ 1 := by
  induction apart with
  | nil => exact Nat.zero_le 1
  | @cons r rows excluded _ ih =>
    unfold matchCount at ih ⊢
    by_cases hr : r.fits w = true
    · have others : rows.filter (·.fits w) = [] := List.filter_eq_nil_iff.mpr fun q hq => (excluded q hq).not_fits hr
      rw [List.filter_cons_of_pos (p := (Row.fits · w)) hr, others, List.length_singleton]
    · rwa [List.filter_cons_of_neg (p := (Row.fits · w)) hr]

/-! ### The rows as fields -/

/-- A row of R75: OP is `op`, RSV is 0, and IDX is 0 on the bits of `mask`. -/
def cmdRow (op mask : BitVec 4) : Row 32 := ⟨op ++ 0#24 ++ 0#4, BitVec.allOnes 4 ++ BitVec.allOnes 24 ++ mask⟩

/-- A row of R81: GOP is `op`, RSV is 0, and KB is 0 where `mask` keeps it. -/
def gateRow (op : BitVec 4) (mask : BitVec 1) : Row 8 := ⟨op ++ 0#3 ++ 0#1, BitVec.allOnes 4 ++ BitVec.allOnes 3 ++ mask⟩

/-- A row of R86: UOP is `op`, N is 0 on the bits of `mask`, and RSV is 0. -/
def uopRow (op mask : BitVec 5) : Row 16 := ⟨op ++ 0#5 ++ 0#6, BitVec.allOnes 5 ++ mask ++ BitVec.allOnes 6⟩

/-- OP and the mask of IDX, for each row of R75. -/
def cmdRowFields : List (BitVec 4 × BitVec 4) := [(1, 15), (2, 0), (3, 15), (4, 8), (5, 15), (6, 15)]

/-- GOP and the mask of KB, for each row of R81. -/
def gateRowFields : List (BitVec 4 × BitVec 1) := [(1, 1), (2, 1), (3, 1), (4, 1), (5, 1), (6, 0), (7, 0)]

/-- UOP and the mask of N, for each row of R86. -/
def uopRowFields : List (BitVec 5 × BitVec 5) :=
  [(1, 31), (2, 31), (3, 31), (4, 0), (5, 0), (6, 31), (7, 31), (8, 31), (9, 31), (10, 31), (11, 31), (12, 31)]

theorem cmdRows_eq : cmdRows = cmdRowFields.map fun f => cmdRow f.1 f.2 := by decide
theorem gateRows_eq : gateRows = gateRowFields.map fun f => gateRow f.1 f.2 := by decide
theorem uopRows_eq : uopRows = uopRowFields.map fun f => uopRow f.1 f.2 := by decide

theorem cmdRow_fits (op mask : BitVec 4) (w : BitVec 32) :
    (cmdRow op mask).fits w = true ↔ cmdOp w = op ∧ cmdRsv w = 0 ∧ cmdIdx w &&& mask = 0 := by
  have fields := Row.fits_fields (cmdOp w) op (BitVec.allOnes 4) (cmdRsv w) 0 (BitVec.allOnes 24) (cmdIdx w) 0 mask
  rwa [← cmd_fields, BitVec.and_allOnes, BitVec.and_allOnes] at fields

theorem gateRow_fits (op : BitVec 4) (mask : BitVec 1) (b : BitVec 8) :
    (gateRow op mask).fits b = true ↔ gateOp b = op ∧ gateRsv b = 0 ∧ BitVec.ofBool (gateKb b) &&& mask = 0 := by
  have fields :=
    Row.fits_fields (gateOp b) op (BitVec.allOnes 4) (gateRsv b) 0 (BitVec.allOnes 3) (BitVec.ofBool (gateKb b)) 0 mask
  rwa [← gate_fields_kb, BitVec.and_allOnes, BitVec.and_allOnes] at fields

theorem uopRow_fits (op mask : BitVec 5) (w : BitVec 16) :
    (uopRow op mask).fits w = true ↔ uopOp w = op ∧ uopN w &&& mask = 0 ∧ uopRsv w = 0 := by
  have fields := Row.fits_fields (uopOp w) op (BitVec.allOnes 5) (uopN w) 0 mask (uopRsv w) 0 (BitVec.allOnes 6)
  rwa [← uop_fields, BitVec.and_allOnes, BitVec.and_allOnes] at fields

theorem exists_cmdRow_fits {w : BitVec 32} : (∃ r ∈ cmdRows, r.fits w = true) ↔
    ∃ f ∈ cmdRowFields, cmdOp w = f.1 ∧ cmdRsv w = 0 ∧ cmdIdx w &&& f.2 = 0 := by
  simp only [cmdRows_eq, List.mem_map, exists_exists_and_eq_and, cmdRow_fits]

theorem exists_gateRow_fits {b : BitVec 8} : (∃ r ∈ gateRows, r.fits b = true) ↔
    ∃ f ∈ gateRowFields, gateOp b = f.1 ∧ gateRsv b = 0 ∧ BitVec.ofBool (gateKb b) &&& f.2 = 0 := by
  simp only [gateRows_eq, List.mem_map, exists_exists_and_eq_and, gateRow_fits]

theorem exists_uopRow_fits {w : BitVec 16} : (∃ r ∈ uopRows, r.fits w = true) ↔
    ∃ f ∈ uopRowFields, uopOp w = f.1 ∧ uopN w &&& f.2 = 0 ∧ uopRsv w = 0 := by
  simp only [uopRows_eq, List.mem_map, exists_exists_and_eq_and, uopRow_fits]

/-! ### A word decodes exactly when a row fits -/

/-- R75, R81, R86: every instruction's encoding matches its own row. -/
theorem encode_matchesRow (i : Instr) : Laws.RowMatch.Statement i :=
  match i with
  | .init => Laws.RowMatch.init
  | .load idx => Laws.RowMatch.load idx
  | .absorb => Laws.RowMatch.absorb
  | .read idx => Laws.RowMatch.read idx
  | .status => Laws.RowMatch.status
  | .abort => Laws.RowMatch.abort
  | .and => Laws.RowMatch.and
  | .or => Laws.RowMatch.or
  | .xor => Laws.RowMatch.xor
  | .not => Laws.RowMatch.not
  | .mux => Laws.RowMatch.mux
  | .triv kb => Laws.RowMatch.triv kb
  | .xork kb => Laws.RowMatch.xork kb
  | .add32 => Laws.RowMatch.add32
  | .addk32 => Laws.RowMatch.addk32
  | .xor32 => Laws.RowMatch.xor32
  | .rotr n => Laws.RowMatch.rotr n
  | .shr n => Laws.RowMatch.shr n
  | .ch32 => Laws.RowMatch.ch32
  | .maj32 => Laws.RowMatch.maj32
  | .bsig0 => Laws.RowMatch.bsig0
  | .bsig1 => Laws.RowMatch.bsig1
  | .ssig0 => Laws.RowMatch.ssig0
  | .ssig1 => Laws.RowMatch.ssig1
  | .triv32 => Laws.RowMatch.triv32

/-- A row of the word's own format fits it. -/
def FitsRow : Encoded → Prop
  | .cmd32 w => ∃ r ∈ cmdRows, r.fits w = true
  | .gate8 b => ∃ r ∈ gateRows, r.fits b = true
  | .uop16 w => ∃ r ∈ uopRows, r.fits w = true

theorem fitsRow_of_matchesWord {r : RowRef} {e : Encoded} (h : r.matchesWord e = true) : FitsRow e := by
  cases r <;> cases e
  case cmd.cmd32 k w => exact ⟨cmdRows[k], List.getElem_mem _, h⟩
  case gate.gate8 k b => exact ⟨gateRows[k], List.getElem_mem _, h⟩
  case uop.uop16 k w => exact ⟨uopRows[k], List.getElem_mem _, h⟩
  all_goals cases h

/-- A word that decodes is an encoding (`decode_reads`), which its instruction's row fits. -/
theorem fitsRow_of_decode {e : Encoded} {i : Instr} (h : decode e = .ok i) : FitsRow e := by
  obtain ⟨code, wf⟩ := decode_reads e i h
  exact code ▸ fitsRow_of_matchesWord (encode_matchesRow i wf)

theorem exists_ok_of_toBool {o : Except Reject Instr} (h : o.toBool = true) : ∃ i, o = .ok i := by
  cases o with
  | ok i => exact ⟨i, rfl⟩
  | error r => cases h

/-- Each row's opcode decodes with every operand its mask lets through. -/
theorem cmdRowFields_decode :
    ∀ f ∈ cmdRowFields, ∀ idx, idx &&& f.2 = 0 → (decodeCommandFields f.1 idx).toBool = true := by
  intro f hf
  fin_cases hf <;> decide

theorem gateRowFields_decode :
    ∀ f ∈ gateRowFields, ∀ kb, BitVec.ofBool kb &&& f.2 = 0 → (decodeGateFields f.1 kb).toBool = true := by
  intro f hf
  fin_cases hf <;> decide

theorem uopRowFields_decode : ∀ f ∈ uopRowFields, ∀ n, n &&& f.2 = 0 → (decodeUopFields f.1 n).toBool = true := by
  intro f hf
  fin_cases hf <;> decide

theorem decodeCmd32_iff_fits (w : BitVec 32) : (∃ i, decodeCmd32 w = .ok i) ↔ ∃ r ∈ cmdRows, r.fits w = true := by
  refine ⟨fun ⟨_, h⟩ => fitsRow_of_decode (e := .cmd32 w) h, fun h => ?_⟩
  obtain ⟨f, hf, hop, hrsv, hidx⟩ := exists_cmdRow_fits.mp h
  rw [decodeCmd32, if_pos hrsv, hop]
  exact exists_ok_of_toBool (cmdRowFields_decode f hf _ hidx)

theorem decodeGate8_iff_fits (b : BitVec 8) : (∃ i, decodeGate8 b = .ok i) ↔ ∃ r ∈ gateRows, r.fits b = true := by
  refine ⟨fun ⟨_, h⟩ => fitsRow_of_decode (e := .gate8 b) h, fun h => ?_⟩
  obtain ⟨f, hf, hop, hrsv, hkb⟩ := exists_gateRow_fits.mp h
  rw [decodeGate8, if_pos hrsv, hop]
  exact exists_ok_of_toBool (gateRowFields_decode f hf _ hkb)

theorem decodeUop16_iff_fits (w : BitVec 16) : (∃ i, decodeUop16 w = .ok i) ↔ ∃ r ∈ uopRows, r.fits w = true := by
  refine ⟨fun ⟨_, h⟩ => fitsRow_of_decode (e := .uop16 w) h, fun h => ?_⟩
  obtain ⟨f, hf, hop, hn, hrsv⟩ := exists_uopRow_fits.mp h
  rw [decodeUop16, if_pos hrsv, hop]
  exact exists_ok_of_toBool (uopRowFields_decode f hf _ hn)

/-- Settles O5: what decodes fits its instruction's row, a row's words decode, and a table's rows exclude each other. -/
theorem requestLegalExactlyWhenARowMatches : Obligations.RequestLegalExactlyWhenARowMatches :=
  ⟨fun b => ⟨decodeGate8_iff_fits b, matchCount_le_one (by decide) b⟩,
    fun w => ⟨decodeUop16_iff_fits w, matchCount_le_one (by decide) w⟩⟩

end Sys2Proof

namespace Sys2Proof.Machine

/-- Settles O4: a word decodes exactly when a row fits, the rows exclude each other, and a word that does not decode is illegal. -/
theorem commandWordLegalExactlyWhenARowMatches : Obligations.CommandWordLegalExactlyWhenARowMatches := by
  refine ⟨decodeCmd32_iff_fits, matchCount_le_one (by decide), fun s w data es event no_row => ?_⟩
  cases hd : decodeCmd32 w with
  | error e => exact step_illegalCommand event hd
  | ok i =>
    obtain ⟨r, hr, fits⟩ := (decodeCmd32_iff_fits w).mp ⟨i, hd⟩
    simp [no_row r hr] at fits

/-! ### Reserved requests (R83, R88) -/

/-- The opcodes of R81's rows, and which rows leave KB free. -/
theorem gateRowFields_opcodes :
    ∀ f ∈ gateRowFields, f.1 ≠ 0 ∧ f.1.toNat < 8 ∧ (f.1 ≠ 6 → f.1 ≠ 7 → f.2 = BitVec.allOnes 1) := by decide

/-- The opcodes of R86's rows, and which rows leave N free. -/
theorem uopRowFields_opcodes :
    ∀ f ∈ uopRowFields, f.1 ≠ 0 ∧ f.1.toNat < 0x0D ∧ (f.1 ≠ 4 → f.1 ≠ 5 → f.2 = BitVec.allOnes 5) := by
  intro f hf
  fin_cases hf <;> decide

theorem decodeGate8_not_reserved {b : BitVec 8} {i : Instr} (h : decodeGate8 b = .ok i) :
    ¬(gateOp b = 0 ∨ 8 ≤ (gateOp b).toNat ∨ gateRsv b ≠ 0 ∨ (gateKb b = true ∧ gateOp b ≠ 6 ∧ gateOp b ≠ 7)) := by
  obtain ⟨f, hf, hop, hrsv, hkb⟩ := exists_gateRow_fits.mp ((decodeGate8_iff_fits b).mp ⟨i, h⟩)
  obtain ⟨nonzero, low, fixed⟩ := gateRowFields_opcodes f hf
  rw [hop]
  rintro (zero | high | rsv | ⟨kb, not_triv, not_xork⟩)
  · exact nonzero zero
  · omega
  · exact rsv hrsv
  · rw [fixed not_triv not_xork, kb] at hkb
    exact absurd hkb (by decide)

theorem decodeUop16_not_reserved {w : BitVec 16} {i : Instr} (h : decodeUop16 w = .ok i) :
    ¬(uopOp w = 0 ∨ 0x0D ≤ (uopOp w).toNat ∨ uopRsv w ≠ 0 ∨ (uopN w ≠ 0 ∧ uopOp w ≠ 4 ∧ uopOp w ≠ 5)) := by
  obtain ⟨f, hf, hop, hn, hrsv⟩ := exists_uopRow_fits.mp ((decodeUop16_iff_fits w).mp ⟨i, h⟩)
  obtain ⟨nonzero, low, fixed⟩ := uopRowFields_opcodes f hf
  rw [hop]
  rintro (zero | high | rsv | ⟨n, not_rotr, not_shr⟩)
  · exact nonzero zero
  · omega
  · exact rsv hrsv
  · rw [fixed not_rotr not_shr, BitVec.and_allOnes] at hn
    exact n hn

/-- Settles O6: no row fits a reserved request, a gate's own byte is read back, and the lines' words are word operators'. -/
theorem reservedRequestsAreRefused : Obligations.ReservedRequestsAreRefused := by
  refine ⟨fun s b slots es event reserved => ?_, fun g => ?_, fun s w o es event reserved => ?_, ?_⟩
  · cases hd : decodeGate8 b with
    | error e => exact step_reservedGate event hd
    | ok i => exact absurd reserved (decodeGate8_not_reserved hd)
  · have read_back := decodeOfEncodeIsTheInstruction g.toInstr (by cases g <;> rfl)
    cases g <;> exact ⟨_, rfl, read_back⟩
  · cases hd : decodeUop16 w with
    | error e => exact step_reservedWordOp event hd
    | ok i => exact absurd reserved (decodeUop16_not_reserved hd)
  · simp [schedLines, roundLines, ffLines_eq, decode_ssig1, decode_ssig0, decode_add32, decode_addk32, decode_bsig1,
      decode_ch32, decode_bsig0, decode_maj32]

/-- Settles O1: each word's fields, read in the opcode map. -/
theorem sampleWordsDecodeAsTheirRowsSay : Obligations.SampleWordsDecodeAsTheirRowsSay := by
  unfold Obligations.SampleWordsDecodeAsTheirRowsSay
  decide

end Sys2Proof.Machine

/-! # An unfused engine (R81, R108) -/

namespace Sys2Proof.Machine

/-- A MUX is the only gate that sends a MUX request, and an unfused one sends NOT, AND, AND, OR. -/
theorem gateCircuit_neverMux {p : Params} (unfused : p.muxFused = false) (g : Gate) (s : Slots) :
    (gateCircuit p g s).AllRequests (·.gate ≠ .mux) := by
  cases g
  case mux => simp [Circuit.AllRequests, gateCircuit, muxSlots, unfused]
  all_goals simp [Circuit.AllRequests, gateCircuit]

/-- Settles O12: what holds of every gate's requests holds of the circuits', and an unfused engine's gates send no MUX. -/
theorem unfusedEngineNeverIssuesMux : Obligations.UnfusedEngineNeverIssuesMux :=
  ⟨fun _ g slots unfused => gateCircuit_neverMux unfused g slots,
    fun _ _ _ _ unfused h => wordCircuit_allRequests (gateCircuit_neverMux unfused) h,
    fun _ _ unfused h => microStepRequests_satisfy (gateCircuit_neverMux unfused) h⟩

end Sys2Proof.Machine

/-! # LOAD and WAIT -/

namespace Sys2Proof.Machine

/-! ### LOAD (R202) -/

theorem execLoad_idle {s t : State} {i : BitVec 4} {x : List EBit} (mode : s.ST = .idle) (length : x.length = 32)
    (h : exec (.load i) { s with data := x } = .next t) :
    t = { (s.loadWord i (wordOfBits x)).respond .none .empty with data := x } := by
  have run : exec (.load i) { s with data := x } =
      .next { (s.loadWord i (wordOfBits x)).respond .none .empty with data := x } :=
    (inModes_accept [.idle] _ _ (by simp [mode])).trans (if_pos length)
  cases run.symm.trans h
  rfl

theorem loadWord_comm (s : State) {i j : BitVec 4} (apart : i ≠ j) (x y : EWord) :
    (s.loadWord i x).loadWord j y = (s.loadWord j y).loadWord i x := by
  have places : i.toNat ≠ j.toNat := fun h => apart (BitVec.eq_of_toNat_eq h)
  have words := Vector.set_comm (xs := s.M) (hi := i.isLt) (hj := j.isLt) (some x) (some y) places
  have mask : s.LDMASK ||| 1#16 <<< i.toNat ||| 1#16 <<< j.toNat = s.LDMASK ||| 1#16 <<< j.toNat ||| 1#16 <<< i.toNat := by
    ac_rfl
  simp only [State.loadWord, words, mask]

/-- Settles O31: two LOADs write two words of the buffer and two mask bits, and leave the same response. -/
theorem loadsToDifferentWordsCommute : Obligations.LoadsToDifferentWordsCommute := by
  intro s a b c d i j x y mode hx hy apart ha hb hc hd
  have ha := execLoad_idle mode hx ha
  have hc := execLoad_idle mode hy hc
  have hb := execLoad_idle (ha ▸ mode) hy hb
  have hd := execLoad_idle (hc ▸ mode) hx hd
  subst hb hd ha hc
  exact congrArg (fun t : State => t.respond .none .empty) (loadWord_comm s apart (wordOfBits x) (wordOfBits y))

/-! ### WAIT (R94) -/

/-- R205: the host's STATUS answers the STATUS word in every mode, and leaves the state but for the lanes. -/
theorem issue_status (s : State) : issue 0x5 0 [] s =
    .done ({ s with data := [], response := some ⟨.none, .status (statusWord s)⟩ }, .status (statusWord s)) := by
  have answer : offer (.command (cmdBits 0x5 0) []) s =
      .done { s with data := [], response := some ⟨.none, .status (statusWord s)⟩ } := by
    rw [offer, step_command rfl (i := .status) (by decide)]
    rfl
  rw [issue, answer]
  rfl

/-- R29: STATE, bits [1:0] of the STATUS word, is 1 in BUSY only. -/
theorem statusWord_state_eq_busy (s : State) : (statusWord s).extractLsb' 0 2 = 1 ↔ s.ST = .busy := by
  obtain ⟨state, -⟩ := statusFields_slices s.LDMASK 0#7 (fullFlag s) s.ERR.number 0#2 s.ST.number
  rw [statusWord_eq_fields, state]
  cases s.ST <;> decide

/-- Settles O56: the first poll's STATE is not BUSY. -/
theorem waitEndsOutsideBusy : Obligations.WaitEndsOutsideBusy := by
  intro s fuel mode
  rw [waitBlock, issue_status]
  exact if_neg (mode ∘ (statusWord_state_eq_busy s).mp)

end Sys2Proof.Machine

/-! # Gate requests -/

namespace Sys2Proof.Machine

/-- R101, R108: a gate whose used slots are filled yields its boolean function, MUX in both realizations. -/
theorem gateCircuit_out_filled (p : Params) {g : Gate} {s : Slots} (filled : slotsFilled g s = true) :
    (gateCircuit p g s).out = gateValue g (s.a.getD false) (s.b.getD false) (s.c.getD false) := by
  cases g
  case mux =>
    obtain ⟨_ | a, _ | b, _ | c⟩ := s <;> cases filled
    exact muxCircuit_out p a b c
  all_goals exact gateResult_filled _ s filled

/-- R82: a gate request is its circuit on the slots, answered by one draw. -/
theorem exec_toInstr (g : Gate) (s : State) : exec g.toInstr s = finishGate (gateCircuit s.params g s.slots) s := by
  cases g <;> rfl

/-- R82, R101: a successful request with its used slots filled answers its gate's value and uses its draw. -/
theorem exec_toInstr_value {g : Gate} {s : State} {x : EBit} (success : s.nextDraw = .success)
    (filled : slotsFilled g s.slots = true)
    (value : gateValue g (s.slots.a.getD false) (s.slots.b.getD false) (s.slots.c.getD false) = x) :
    exec g.toInstr s = .next { s with draws := s.draws.tail, gateResult := some (.ok x) } := by
  rw [exec_toInstr, finishGate_success _ s success, gateCircuit_out_filled s.params filled, value]

/-- R108, R113: MUX's truth table as a formula. -/
theorem gateValue_mux (a b c : EBit) : gateValue .mux a b c = (a && b || !a && c) := by
  cases a <;> simp [gateValue]

/-- Settles O9: the slots each gate uses are filled, so its boolean function is the result. -/
theorem gateRequestReturnsItsTruthTable : Obligations.GateRequestReturnsItsTruthTable := by
  intro s a success slotA
  have result {x : EBit} (g : Gate) := exec_toInstr_value (g := g) (x := x) success
  simp only [slotA, Option.getD_some] at result
  have one_slot : s.slots.a.isSome = true := by simp [slotA]
  refine ⟨result .not one_slot rfl, result (.xork false) one_slot a.xor_false, result (.xork true) one_slot a.xor_true,
    fun b slotB => ?_⟩
  simp only [slotB, Option.getD_some] at result
  have two_slots : (s.slots.a.isSome && s.slots.b.isSome) = true := by simp [slotA, slotB]
  refine ⟨result .and two_slots rfl, result .or two_slots rfl, result .xor two_slots rfl, fun c slotC => ?_⟩
  have three_slots : (s.slots.a.isSome && s.slots.b.isSome && s.slots.c.isSome) = true := by simp [slotA, slotB, slotC]
  simp only [slotC, Option.getD_some] at result
  exact result .mux three_slots (gateValue_mux a b c)

/-- Settles O13: TRIV uses no slot, and its boolean function is its public bit. -/
theorem trivialEncryptionYieldsItsBit : Obligations.TrivialEncryptionYieldsItsBit :=
  fun _ k success => exec_toInstr_value (g := .triv k) success rfl rfl

end Sys2Proof.Machine

/-! # Word operators (R130 to R147) -/

namespace Sys2Proof.Machine

/-! ### A word operator taken as a step (R130) -/

/-- R86: a word operator is its circuit on the operand lanes, finished as a word. -/
theorem exec_wordCircuit {i : Instr} {s : State} {x : Circuit EWord} (circuit : wordCircuit i s.params s.operands = some x) :
    exec i s = finishWord x s := by
  cases i <;> cases circuit
  all_goals rfl

section
variable {i : Instr} {s : State} {x : Circuit EWord} {v : EWord}

/-- The result of the circuit of a word operator is the operator's plaintext value. -/
theorem wordCircuit_out (circuit : wordCircuit i s.params s.operands = some x) (value : wordValue i s.operands = some v) :
    x.out = v := by
  have out := wordCircuit_map_out i s.params s.operands
  rw [circuit, value] at out
  exact Option.some.inj out

/-- R130: a word operator that makes a request answers its value when the draw succeeds. -/
theorem exec_word_success (circuit : wordCircuit i s.params s.operands = some x) (requests : makesRequest x = true)
    (value : wordValue i s.operands = some v) (success : s.nextDraw = .success) :
    exec i s = .next { s with draws := s.draws.tail, D := some v } := by
  rw [exec_wordCircuit circuit, finishWord_success x s requests success, wordCircuit_out circuit value]

/-- R103: a word operator that makes no request answers its value under every draw. -/
theorem exec_word_wiring (circuit : wordCircuit i s.params s.operands = some x) (wiring : makesRequest x = false)
    (value : wordValue i s.operands = some v) : exec i s = .next { s with D := some v } := by
  rw [exec_wordCircuit circuit, finishWord_wiring x s wiring, wordCircuit_out circuit value]

end

/-! ### Addition (R131, R133, R144) -/

/-- Settles O15: both adders yield the sum of two 32-bit words, the carry discarded. -/
theorem wordAdditionIsModulo32Bits : Obligations.WordAdditionIsModulo32Bits := fun _ success =>
  ⟨⟨_, exec_word_success rfl (addCircuit_makesRequest _ _ _) rfl success, BitVec.toNat_add _ _⟩,
    ⟨_, exec_word_success rfl (constAddCircuit_makesRequest _ _ _) rfl success, BitVec.toNat_add _ _⟩⟩

/-- Settles O28: every realization has the sum as its value, and addition of words has the three laws. -/
theorem additionOrderDoesNotMatter : Obligations.AdditionOrderDoesNotMatter := by
  intro p a b c
  simp only [addCircuit_out]
  exact ⟨BitVec.add_comm a b, BitVec.add_assoc a b c, BitVec.add_zero a⟩

/-! ### Bitwise operators (R134, R137, R138, R139) -/

/-- Settles O16: the values of the three circuits. -/
theorem bitwiseOperatorsHaveTheirFormulas : Obligations.BitwiseOperatorsHaveTheirFormulas := fun _ success =>
  ⟨exec_word_success rfl (xorCircuit_makesRequest _ _ _) rfl success,
    exec_word_success rfl (chooseCircuit_makesRequest _ _ _ _) rfl success,
    exec_word_success rfl (majorityCircuit_makesRequest _ _ _ _) rfl success⟩

/-- R130: the requests of a bitwise operator are those of its 32 positions, in index order. -/
theorem gatherBits_reqs (f : Nat → Circuit EBit) (n : Nat) :
    (gatherBits f n).reqs = (List.range n).flatMap fun i => (f i).reqs := by
  induction n with
  | zero => rfl
  | succ n ih => simp [gatherBits, ih, List.range_succ]

theorem trivialCircuit_reqs (p : Params) (k : Word32) :
    (trivialCircuit p k).reqs = (List.range 32).map fun i => ⟨.triv (k.getLsbD (31 - i)), noSlots, p.sk⟩ := by
  rw [trivialCircuit, eachBit, gatherBits_reqs, List.map_eq_flatMap]
  rfl

/-- Settles O20: the value of TRIV32's circuit, and its requests position by position. -/
theorem trivialWordYieldsItsConstant : Obligations.TrivialWordYieldsItsConstant :=
  ⟨fun _ success => exec_word_success rfl (trivialCircuit_makesRequest _ _) rfl success, trivialCircuit_reqs⟩

/-! ### Rotate and shift (R135, R136) -/

theorem rotateCircuit_makesRequest (w : EWord) (n : Nat) : makesRequest (rotateCircuit w n) = false := by
  simp [makesRequest, rotateCircuit_reqs]

/-- Settles O17: a relabeling makes no request, so no draw can fail it. -/
theorem rotateRelabelsAndCannotFail : Obligations.RotateRelabelsAndCannotFail := by
  intro s n
  refine ⟨_, exec_word_wiring rfl (rotateCircuit_makesRequest _ _) rfl, fun i hi => ?_, rfl⟩
  have amount : n.toNat < 32 := n.isLt
  have source : (i + (32 - n.toNat % 32)) % 32 = (i + 32 - n.toNat) % 32 := by omega
  rw [← rotateCircuit_out _ _ amount, rotateCircuit_bitAt _ _ _ hi, source]

/-- One item for each of the positions below `n`, of `m` positions. -/
theorem flatMap_range_lt {α : Type} (x : α) (m n : Nat) :
    ((List.range m).flatMap fun i => if i < n then [x] else []) = List.replicate (min m n) x := by
  induction m with
  | zero => simp
  | succ m ih =>
    rw [List.range_succ, List.flatMap_append, ih]
    by_cases below : m < n
    · rw [Nat.min_eq_left (by omega), Nat.min_eq_left (by omega), List.replicate_succ']
      simp [below]
    · rw [Nat.min_eq_right (by omega), Nat.min_eq_right (by omega)]
      simp [below]

/-- R136: a shift by at most 32 places requests its fill bits and nothing else. -/
theorem shiftCircuit_reqs (p : Params) (w : EWord) {n : Nat} (hn : n ≤ 32) :
    (shiftCircuit p w n).reqs = List.replicate n ⟨.triv false, noSlots, p.sk⟩ := by
  have position (i : Nat) : (if i < n then request p (.triv false) false false false else wire (bitAt w (i - n))).reqs =
      if i < n then [⟨.triv false, noSlots, p.sk⟩] else [] := by
    split <;> rfl
  rw [shiftCircuit, eachBit, gatherBits_reqs]
  simp only [position, flatMap_range_lt, Nat.min_eq_right hn]

/-- R136: only a shift by 0 is wiring. -/
theorem shiftCircuit_makesRequest (p : Params) (w : EWord) {n : Nat} (hn : n ≤ 32) :
    makesRequest (shiftCircuit p w n) = decide (n ≠ 0) := by
  cases n <;> simp [makesRequest, shiftCircuit_reqs p w hn, List.replicate_succ]

/-- Settles O18: the `n` fill requests decide whether SHR draws; its value is the shifted operand. -/
theorem shiftFillsWithZeros : Obligations.ShiftFillsWithZeros := by
  intro s
  have requests (n : BitVec 5) := shiftCircuit_makesRequest s.params s.operands.s1 n.isLt.le
  refine ⟨?_, fun n nonzero success => ?_, fun n => shiftCircuit_reqs _ _ n.isLt.le⟩
  · exact exec_word_wiring rfl (requests 0) (congrArg some (BitVec.ushiftRight_zero s.operands.s1))
  · have amount : n.toNat ≠ 0 := fun h => nonzero (BitVec.eq_of_toNat_eq h)
    exact exec_word_success rfl ((requests n).trans (decide_eq_true amount)) rfl success

/-! ### The sigma compositions (R140 to R143) -/

/-- R135: the model's rotation is the library's. -/
theorem rotateRight_eq_library (w : EWord) {n : Nat} (hn : n < 32) : rotateRight w n = w.rotateRight n := by
  rw [rotateRight, BitVec.rotateRight_def, Nat.mod_eq_of_lt hn]

/-- Settles O19: the sigma circuits have the plaintext sigmas, whose rotations are the library's. -/
theorem sigmaCompositionsHaveTheirAmounts : Obligations.SigmaCompositionsHaveTheirAmounts := by
  intro s success
  refine ⟨exec_word_success rfl (bigSigma0Circuit_makesRequest _ _) ?_ success,
    exec_word_success rfl (bigSigma1Circuit_makesRequest _ _) ?_ success,
    exec_word_success rfl (smallSigma0Circuit_makesRequest _ _) ?_ success,
    exec_word_success rfl (smallSigma1Circuit_makesRequest _ _) ?_ success⟩
  all_goals
    simp (disch := decide) only [wordValue, bigSigma0, bigSigma1, smallSigma0, smallSigma1, rotateRight_eq_library]

/-! ### Relabelings one after the other (R146, R147) -/

/-- R146: rotations one after the other are the rotation by the sum. -/
theorem rotateCircuit_add (w : EWord) (m n : Nat) :
    (rotateCircuit (rotateCircuit w m).out n).out = (rotateCircuit w (m + n)).out := by
  refine BitVec.eq_of_getMsbD_eq fun i hi => ?_
  have source : ((i + (32 - n % 32)) % 32 + (32 - m % 32)) % 32 = (i + (32 - (m + n) % 32)) % 32 := by omega
  have inside : (i + (32 - n % 32)) % 32 < 32 := Nat.mod_lt _ (by decide)
  calc bitAt (rotateCircuit (rotateCircuit w m).out n).out i
    _ = bitAt (rotateCircuit w m).out ((i + (32 - n % 32)) % 32) := rotateCircuit_bitAt _ _ _ hi
    _ = bitAt w ((i + (32 - (m + n) % 32)) % 32) := by rw [rotateCircuit_bitAt _ _ _ inside, source]
    _ = bitAt (rotateCircuit w (m + n)).out i := (rotateCircuit_bitAt _ _ _ hi).symm

theorem rotateCircuit_mod (w : EWord) (n : Nat) : rotateCircuit w (n % 32) = rotateCircuit w n := by
  simp only [rotateCircuit, Nat.mod_mod]

theorem rotateCircuit_zero (w : EWord) : (rotateCircuit w 0).out = w := by
  simp [rotateCircuit_out, rotateRight]

theorem shiftCircuit_add (p : Params) (w : EWord) (m n : Nat) :
    (shiftCircuit p (shiftCircuit p w m).out n).out = (shiftCircuit p w (m + n)).out := by
  simp only [shiftCircuit_out, BitVec.shiftRight_add]

/-- Settles O27: amounts add up; a rotation sees its amount modulo 32 only, a shift by 32 or more has no bit left. -/
theorem relabelingsCompose : Obligations.RelabelingsCompose := by
  intro p w m n _ hn
  refine ⟨?_, ?_, ?_⟩
  · rw [rotateCircuit_add, rotateCircuit_mod]
  · rw [shiftCircuit_add]
    split
    · rfl
    · exact (shiftCircuit_out p w _).trans (BitVec.ushiftRight_eq_zero (by omega))
  · have full_turn : (n + (32 - n) % 32) % 32 = 0 := by omega
    rw [rotateCircuit_add, ← rotateCircuit_mod, full_turn, rotateCircuit_zero]

section
variable {relabel : EWord → Nat → EWord} (zero : ∀ w, relabel w 0 = w)
  (add : ∀ w a b, relabel (relabel w a) b = relabel w (a + b)) (w : EWord) (n : BitVec 5)
include zero add

/-- R147: where amounts add up, stages `0 .. k-1` relabel by the low `k` bits of the amount. -/
theorem networkStages_relabel (k : Nat) :
    (List.range k).foldl (fun x j => networkStage relabel n j x) w = relabel w (n.toNat % 2 ^ k) := by
  induction k with
  | zero => simp [Nat.mod_one, zero]
  | succ k ih =>
    have bit : n.toNat / 2 ^ k % 2 = (n.getLsbD k).toNat := (Nat.toNat_testBit n.toNat k).symm
    rw [List.range_succ, List.foldl_append, ih, Nat.mod_pow_succ, bit]
    cases h : n.getLsbD k <;> simp [networkStage, h, add]

theorem selectionNetwork_relabel : selectionNetwork relabel w n = relabel w n.toNat := by
  rw [selectionNetwork, networkStages_relabel zero add, Nat.mod_eq_of_lt n.isLt]

end

/-- Settles O26: the amounts of rotations and of shifts add up, so the stages relabel by the sum of the amount's bits. -/
theorem selectionNetworkIsTheRelabeling : Obligations.SelectionNetworkIsTheRelabeling := fun p w n =>
  ⟨selectionNetwork_relabel rotateCircuit_zero rotateCircuit_add w n,
    selectionNetwork_relabel (fun w => shiftCircuit_out p w 0) (shiftCircuit_add p) w n⟩

end Sys2Proof.Machine

/-! # The controller's micro-steps, one by one and over a block -/

namespace Sys2Proof.Machine

/-! ### The start of a block -/

/-- Settles O32: the state that ABSORB starts the block in has the message in `W` below 16, and above it what stood there. -/
theorem absorbCapturesTheBlock : Obligations.AbsorbCapturesTheBlock := by
  intro s h m mode mask chain message
  refine ⟨blockW s.W m 0, execAbsorb_inBlock mode mask chain message, fun i => ?_, fun i hi => ?_⟩
  · rw [blockW_get, if_pos i.isLt, blockSchedule_message m i.isLt]
    rfl
  · exact (blockW_get s.W m 0 i.isLt).trans (if_neg (by omega))

/-! ### One micro-step -/

/-- Settles O37: a schedule micro-step that succeeds writes the recurrence's word at T and advances. -/
theorem scheduleStepFollowsTheRecurrence : Obligations.ScheduleStepFollowsTheRecurrence := by
  intro s es w2 w7 w15 w16 turn mode phase start draw h2 h7 h15 h16
  rw [step_microStep s es turn, microStep_sched { s with pending := es } mode phase,
    schedStep_next { s with pending := es } w2 w7 w15 w16 start h2 h7 h15 h16,
    finishMicroStep_success { s with pending := es } _ draw]
  have position : nextPosition s.PHASE s.T = (if s.T = 63 then .round else .sched, if s.T = 63 then 0 else s.T + 1) := by
    rw [phase, nextPosition]
    split <;> rfl
  simp only [State.advance, State.writeW, State.dropDraw, position, scheduleWord]

/-- Settles O39: a feed-forward micro-step that succeeds commits the eight sums and ends the block. -/
theorem feedForwardCommitsAllEightWords : Obligations.FeedForwardCommitsAllEightWords := by
  intro s es h v turn mode phase draw chain working
  have commits : step s = .next (({ s with pending := es } : State).dropDraw.commitBlock (feedForward h v)) := by
    rw [step_microStep s es turn, microStep_ff { s with pending := es } mode phase,
      ffStep_next { s with pending := es } h v chain working, finishMicroStep_success { s with pending := es } _ draw]
  exact ⟨feedForward h v, _, _, _, commits, fun j => by simp [feedForward]⟩

/-! ### A failing micro-step -/

section
variable {s : State} {k : FailKind} (draw : s.nextDraw = .fail k)
include draw

/-- R177, R239: on a failing draw no micro-step goes on to anything but the end of the block, whatever it would have written. -/
theorem finishMicroStep_ensures_fail (commit : State → State) :
    Ensures (· = s.dropDraw.failBlock k) (.next (finishMicroStep s commit)) :=
  (ensures_next _).mpr (finishMicroStep_fail s commit k draw)

theorem schedStep_ensures_fail : Ensures (· = s.dropDraw.failBlock k) (schedStep s) := by
  unfold schedStep
  split
  · exact ensures_fault _
  · refine andThen_ensures fun x _ => ?_
    split
    · exact finishMicroStep_ensures_fail draw _
    · exact ensures_fault _

theorem roundStep_ensures_fail : Ensures (· = s.dropDraw.failBlock k) (roundStep s) := by
  refine andThen_ensures fun x _ => andThen_ensures fun v _ => ?_
  split
  · exact finishMicroStep_ensures_fail draw _
  · exact ensures_fault _

theorem ffStep_ensures_fail : Ensures (· = s.dropDraw.failBlock k) (ffStep s) := by
  refine andThen_ensures fun x _ => ?_
  split
  · exact finishMicroStep_ensures_fail draw _
  · exact ensures_fault _

theorem microStep_ensures_fail (mode : s.ST = .busy) : Ensures (· = s.dropDraw.failBlock k) (microStep s) := by
  cases phase : s.PHASE with
  | sched => rw [microStep_sched s mode phase]; exact schedStep_ensures_fail draw
  | round => rw [microStep_round s mode phase]; exact roundStep_ensures_fail draw
  | ff => rw [microStep_ff s mode phase]; exact ffStep_ensures_fail draw

/-- R177: from a state of the invariant with a block in flight, a failing micro-step is the end of the block. -/
theorem microStep_fail (inv : EngineInv s) (mode : s.ST = .busy) : microStep s = .next (s.dropDraw.failBlock k) := by
  obtain ⟨t, ht⟩ := microStep_answers inv
  rw [ht, microStep_ensures_fail draw mode t ht]

end

/-- Settles O40: a micro-step of a state of the invariant does not fault, so a failing one ends the block, in its kind's mode and
code. -/
theorem failedMicroStepEndsTheBlock : Obligations.FailedMicroStepEndsTheBlock := by
  intro s es k inv turn mode draw
  have fails : step s = .next (({ s with pending := es } : State).dropDraw.failBlock k) :=
    (step_microStep s es turn).trans (microStep_fail (s := { s with pending := es }) draw (engineInv_congr rfl inv) mode)
  cases k <;> exact ⟨_, _, _, fails⟩

/-! ### A whole block -/

theorem run_add {s t : State} {n : Nat} (k : Nat) (h : core.run n s = .next t) : core.run (n + k) s = core.run k t := by
  induction n generalizing s with
  | zero => cases h; rw [Nat.zero_add]
  | succ n ih =>
    cases first : step s with
    | next u => rw [run_succ n first] at h; rw [Nat.succ_add, run_succ _ first, ih h]
    | fault r => simp [Host.Core.run, show core.step s = .fault r from first] at h
    | refused r => simp [Host.Core.run, show core.step s = .refused r from first] at h

section
variable {s : State} {h : Vector EWord 8} (m : Vector EWord 16) (chain : s.H = some h)
include chain

/-- R175, R181: after 48 schedule steps and 64 rounds the feed-forward commits the compression function. -/
theorem microStep_inBlock_commits (draw : s.nextDraw = .success) :
    microStep (s.inBlock h m 112) = .next (s.dropDraw.commitBlock (compress h m)) := by
  rw [microStep_ff (s.inBlock h m 112) rfl rfl, ffStep_next (s.inBlock h m 112) h _ chain rfl,
    finishMicroStep_success (s.inBlock h m 112) _ draw]
  rfl

/-- R176, R181: 113 successful micro-steps take a block from its capture to its commit. -/
theorem run_inBlock_commits {es : List Event} (events : s.pending = List.replicate 113 .microStep ++ es)
    (draws : DrawsSucceed s 113) :
    core.run 113 (s.inBlock h m 0) =
      .next (({ s with pending := es, draws := s.draws.drop 113 } : State).commitBlock (compress h m)) := by
  have last : ((s.consumed 112).inBlock h m 112).pending = .microStep :: es := by
    change s.pending.drop 112 = _
    rw [events]
    simp
  have draw : (s.consumed 112).nextDraw = .success := nextDraw_consumed draws (by decide)
  have commit := microStep_inBlock_commits (s := { s.consumed 112 with pending := es }) m chain draw
  rw [run_add 1 (run_inBlock h m events draws (n := 112) (by decide) le_rfl),
    run_succ 0 ((step_microStep _ _ last).trans commit)]
  simp [Host.Core.run, State.dropDraw, State.consumed]

end

/-- Settles O52: ABSORB starts the block, and its 113 micro-steps commit the compression function. -/
theorem blockCommitsTheCompressionFunction : Obligations.BlockCommitsTheCompressionFunction := by
  intro s data es h m event mode mask chain message draws
  have absorb := step_absorb event mode mask chain message
  have block := run_inBlock_commits (s := s.absorbed data (List.replicate 113 .microStep ++ es)) m chain rfl draws
  exact ⟨_, _, _, (run_succ 113 absorb).trans block⟩

end Sys2Proof.Machine

/-! # Host commands and host duties -/

namespace Sys2Proof.Machine

/-! ### Bit lists as words (R52, R53) -/

/-- The bit of weight `2^p` of the value shifted in from `bs` is bit `p` counted from the list's end. -/
theorem foldl_shiftConcat_getLsbD (n p : Nat) (bs : List Bool) :
    (bs.foldl BitVec.shiftConcat (0 : BitVec n)).getLsbD p = (decide (p < n) && bs.reverse.getD p false) := by
  induction bs using List.reverseRecOn generalizing p with
  | nil => simp
  | append_singleton bs x ih =>
    rw [List.foldl_concat, BitVec.getLsbD_shiftConcat, List.reverse_concat]
    cases p with
    | zero => simp
    | succ p =>
      rw [if_neg p.succ_ne_zero, Nat.add_sub_cancel, ih, List.getD_cons_succ]
      by_cases hp : p + 1 < n
      · simp [hp, Nat.lt_of_succ_lt hp]
      · simp [hp]

/-- R52: the first bit of the list is the most significant one. -/
theorem foldl_shiftConcat_getMsbD {n : Nat} {bs : List Bool} (length : bs.length = n) {i : Nat} (hi : i < n) :
    bs[i]? = some ((bs.foldl BitVec.shiftConcat (0 : BitVec n)).getMsbD i) := by
  have place : bs.length - 1 - (n - 1 - i) = i := by omega
  have inside : n - 1 - i < n := by omega
  rw [BitVec.getMsbD, foldl_shiftConcat_getLsbD, List.getD_eq_getElem?_getD, List.getElem?_reverse (by omega), place]
  simp [hi, inside, length]

theorem bitsOfWord_wordOfBits {bs : List EBit} (length : bs.length = 32) : bitsOfWord (wordOfBits bs) = bs := by
  refine List.ext_getElem? fun i => ?_
  by_cases hi : i < 32
  · rw [foldl_shiftConcat_getMsbD length hi]
    simp [bitsOfWord, wordOfBits, bitAt, hi]
  · rw [List.getElem?_eq_none (by simp [bitsOfWord]; omega), List.getElem?_eq_none (by omega)]

theorem byteOfWord_getMsbD (w : EWord) (q : Nat) {k : Nat} (hk : k < 8) :
    (byteOfWord w q).getMsbD k = bitAt w (8 * q + k) := by
  have bit := foldl_shiftConcat_getMsbD (n := 8) (bs := (List.range 8).map fun k => bitAt w (8 * q + k)) (by simp) hk
  simpa [hk, byteOfWord] using bit.symm

/-! ### LOAD and ABORT (R202, R206) -/

/-- Settles O30: the word LOAD writes has the DATA lane's bits. -/
theorem loadWritesOneWordOfTheBuffer : Obligations.LoadWritesOneWordOfTheBuffer := by
  intro s i mode length
  exact ⟨wordOfBits s.data, (inModes_accept [.idle] s _ (List.mem_singleton.mpr mode)).trans (if_pos length),
    bitsOfWord_wordOfBits length⟩

/-- Settles O35: ABORT in BUSY is the end of a block in HALTED with ERR 6. -/
theorem abortDropsTheBlock : Obligations.AbortDropsTheBlock := by
  intro s mode
  exact ⟨_, _, _, inModes_accept [.busy] s _ (List.mem_singleton.mpr mode)⟩

/-! ### Blocks (R211) -/

theorem wellFormedBlock_iff (b : List (List EBit)) :
    wellFormedBlock b = true ↔ b.length = 16 ∧ ∀ w ∈ b, w.length = 32 := by
  simp [wellFormedBlock]

/-- Settles O57: the macro's first check, on the shape of every block, and the check on a flat bit sequence. -/
theorem malformedBlocksAreRejectedFirst : Obligations.MalformedBlocksAreRejectedFirst := by
  intro s blocks fuel
  refine ⟨fun ⟨b, member, shape⟩ => if_neg fun wellFormed => ?_, fun bs length => if_neg length⟩
  obtain ⟨length, words⟩ := (wellFormedBlock_iff b).mp (List.all_eq_true.mp wellFormed b member)
  obtain short | ⟨w, word, short⟩ := shape
  · exact short length
  · exact short (words w word)

/-! ### The padded message (R212) -/

/-- R212: the zero count is the least that brings the length to 448 modulo 512. -/
theorem padZeros_least (len : Nat) :
    (len + 1 + padZeros len) % 512 = 448 ∧ ∀ k < padZeros len, (len + 1 + k) % 512 ≠ 448 := by
  unfold padZeros
  exact ⟨by omega, fun k hk => by omega⟩

theorem padBits_length (m : List Bool) : (padBits m).length = m.length + 1 + padZeros m.length + 64 := by
  simp [padBits]; omega

theorem padBits_message (m : List Bool) {i : Nat} (hi : i < m.length) : (padBits m)[i]? = m[i]? := by
  simp [padBits, List.getElem?_append_left, hi]

theorem padBits_take (m : List Bool) : (padBits m).take m.length = m := by simp [padBits]

theorem padBits_one (m : List Bool) : (padBits m)[m.length]? = some true := by simp [padBits]

theorem padBits_zero (m : List Bool) {i : Nat} (hi : i < padZeros m.length) :
    (padBits m)[m.length + 1 + i]? = some false := by
  rw [padBits, List.getElem?_append_left (by simp; omega), List.getElem?_append_right (by simp)]
  simp [hi]

theorem padBits_bitLength (m : List Bool) {i : Nat} (hi : i < 64) :
    (padBits m)[m.length + 1 + padZeros m.length + i]? = some (m.length.testBit (63 - i)) := by
  have before : (m ++ [true] ++ List.replicate (padZeros m.length) false).length = m.length + 1 + padZeros m.length := by
    simp [Nat.add_assoc, Nat.add_comm 1]
  rw [padBits, ← before, List.getElem?_append_right (Nat.le_add_right ..), Nat.add_sub_cancel_left]
  simp [hi, BitVec.getMsbD, BitVec.getLsbD_ofNat, Nat.lt_succ_of_le (Nat.sub_le 63 i)]

/-! ### A message's bits in blocks (R53, R212) -/

theorem pieces_length (n k : Nat) (bs : List Bool) : (pieces n k bs).length = k := by
  induction k generalizing bs with
  | zero => rfl
  | succ k ih => simp [pieces, ih]

theorem pieces_getElem? {n k i : Nat} (hi : i < k) (bs : List Bool) :
    (pieces n k bs)[i]? = some ((bs.drop (n * i)).take n) := by
  induction k generalizing bs i with
  | zero => omega
  | succ k ih =>
    cases i with
    | zero => simp [pieces]
    | succ i =>
      have later : n + n * i = n * (i + 1) := by ring
      rw [pieces, List.getElem?_cons_succ, ih (by omega), List.drop_drop, later]

theorem length_of_mem_pieces {n k : Nat} {bs x : List Bool} (enough : n * k ≤ bs.length) (member : x ∈ pieces n k bs) :
    x.length = n := by
  induction k generalizing bs with
  | zero => cases member
  | succ k ih =>
    rw [Nat.mul_succ] at enough
    obtain rfl | later := List.mem_cons.mp member
    · exact List.length_take_of_le (by omega)
    · exact ih (by rw [List.length_drop]; omega) later

theorem blocksOf_length (bs : List EBit) : (blocksOf bs).length = bs.length / 512 := by
  rw [blocksOf, List.length_map, pieces_length]

theorem blocksOf_wellFormed (bs : List EBit) : (blocksOf bs).all wellFormedBlock = true := by
  rw [blocksOf, List.all_map, List.all_eq_true]
  intro block member
  have length : block.length = 512 := length_of_mem_pieces (Nat.mul_div_le ..) member
  exact (wellFormedBlock_iff _).mpr ⟨pieces_length .., fun w word => length_of_mem_pieces length.ge word⟩

/-- Bit `i` of word `j` of block `b` is bit `512b + 32j + i` of the list. -/
theorem blocksOf_getElem? {bs : List EBit} {b j : Nat} (hb : b < bs.length / 512) (hj : j < 16) :
    ∃ block w, (blocksOf bs)[b]? = some block ∧ block[j]? = some w ∧ w.length = 32 ∧
      ∀ i < 32, w[i]? = bs[512 * b + 32 * j + i]? := by
  refine ⟨_, _, ?_, pieces_getElem? (n := 32) hj ((bs.drop (512 * b)).take 512), ?_, fun i hi => ?_⟩
  · rw [blocksOf, List.getElem?_map, pieces_getElem? hb, Option.map_some]
  · simp only [List.length_take, List.length_drop]
    omega
  · rw [List.getElem?_take_of_lt hi, List.getElem?_drop, List.getElem?_take_of_lt (by omega), List.getElem?_drop, Nat.add_assoc]

theorem messageBits_length (m : List Byte) : (messageBits m).length = 8 * m.length := by
  simp [messageBits, Nat.mul_comm]

theorem messageBits_cons (x : Byte) (m : List Byte) :
    messageBits (x :: m) = (List.range 8).map x.getMsbD ++ messageBits m := List.flatMap_cons

theorem messageBits_drop (m : List Byte) (i : Nat) : (messageBits m).drop (8 * i) = messageBits (m.drop i) := by
  induction m generalizing i with
  | nil => simp [messageBits]
  | cons x m ih =>
    cases i with
    | zero => rfl
    | succ i =>
      have byte : ((List.range 8).map x.getMsbD).length = 8 := by simp
      rw [messageBits_cons, Nat.mul_succ, Nat.add_comm, ← List.drop_drop, List.drop_left' byte, ih, List.drop_succ_cons]

/-- R53: bit `k` of byte `i` of a message. -/
theorem messageBits_getElem? {m : List Byte} {x : Byte} {i k : Nat} (byte : m[i]? = some x) (hk : k < 8) :
    (messageBits m)[8 * i + k]? = some (x.getMsbD k) := by
  obtain ⟨hi, rfl⟩ := List.getElem?_eq_some_iff.mp byte
  rw [← List.getElem?_drop, messageBits_drop, List.drop_eq_getElem_cons hi, messageBits_cons]
  simp [List.getElem?_append_left, hk]

theorem encodeMessage_length (m : List Byte) : (encodeMessage m).length = (m.length + 8) / 64 + 1 := by
  rw [encodeMessage, blocksOf_length, padBits_length, messageBits_length, padZeros]
  omega

/-- R212: byte `q` of word `j` of block `b` is the message's byte `64b + 4j + q`. -/
theorem encodeMessage_byte {m : List Byte} {b j q : Nat} {x : Byte} (hj : j < 16) (hq : q < 4)
    (byte : m[64 * b + 4 * j + q]? = some x) :
    ∃ block w, (encodeMessage m)[b]? = some block ∧ block[j]? = some w ∧ byteOfWord (wordOfBits w) q = x := by
  obtain ⟨inside, -⟩ := List.getElem?_eq_some_iff.mp byte
  have hb : b < (padBits (messageBits m)).length / 512 := by
    rw [← blocksOf_length, ← encodeMessage, encodeMessage_length]
    omega
  obtain ⟨block, w, hblock, hw, length, bits⟩ := blocksOf_getElem? hb hj
  refine ⟨block, w, hblock, hw, BitVec.eq_of_getMsbD_eq fun k hk => ?_⟩
  have place : 512 * b + 32 * j + (8 * q + k) = 8 * (64 * b + 4 * j + q) + k := by omega
  have bit : w[8 * q + k]? = some (x.getMsbD k) := by
    rw [bits _ (by omega), place, padBits_message _ (by rw [messageBits_length]; omega), messageBits_getElem? byte hk]
  rw [byteOfWord_getMsbD _ _ hk, bitAt, wordOfBits]
  exact Option.some.inj ((foldl_shiftConcat_getMsbD length (by omega)).symm.trans bit)

/-- Settles O58: the zero count, the layout of the padded message, and the message's bytes in its blocks. -/
theorem paddingFollowsTheRule : Obligations.PaddingFollowsTheRule :=
  ⟨padZeros_least,
    fun m => ⟨padBits_length m, padBits_take m, padBits_one m, fun _ => padBits_zero m, fun _ => padBits_bitLength m⟩,
    fun m => ⟨encodeMessage_length m, blocksOf_wellFormed _, fun _ _ _ _ => encodeMessage_byte⟩⟩

end Sys2Proof.Machine

/-! # What encrypted values can influence (R243) -/

namespace Sys2Proof.Machine

/-! ### What hiding leaves -/

section
variable {n : Nat} (f : Vector (Option EWord) n)

theorem hideFile_get {i : Nat} (hi : i < n) : (hideFile f)[i] = f[i].map fun _ => 0 := by simp [hideFile]

theorem hideFile_unwritten (n : Nat) : hideFile (unwrittenFile n) = unwrittenFile n := by
  ext1 i hi
  rw [hideFile_get _ hi, unwrittenFile_get n i hi, Option.map_none]

theorem hideFile_set {i : Nat} (hi : i < n) (w : EWord) : hideFile (f.set i (some w) hi) = (hideFile f).set i (some 0) hi := by
  ext1 j hj
  rw [hideFile_get _ hj, Vector.getElem_set, Vector.getElem_set, hideFile_get f hj]
  split <;> rfl

theorem hideFile_hideFile : hideFile (hideFile f) = hideFile f := by
  ext1 i hi
  rw [hideFile_get _ hi, hideFile_get f hi, Option.map_map]
  rfl

end

theorem hidePayload_hidePayload (p : Payload) : hidePayload (hidePayload p) = hidePayload p := by cases p <;> rfl

theorem hideGateResult_hideGateResult (r : GateResult) : hideGateResult (hideGateResult r) = hideGateResult r := by
  cases r <;> rfl

theorem hideSlots_hideSlots (s : Slots) : hideSlots (hideSlots s) = hideSlots s := by
  simp only [hideSlots, Option.map_map, Function.comp_def]

theorem hideEvent_hideEvent (e : Event) : hideEvent (hideEvent e) = hideEvent e := by
  cases e with
  | command w data => simp only [hideEvent, List.length_replicate]
  | wordOp w o => rfl
  | gateRequest b slots => simp only [hideEvent, hideSlots_hideSlots]
  | microStep => rfl

@[simp] theorem hideState_hideState (s : State) : hideState (hideState s) = hideState s := by
  simp only [hideState, hideFile_hideFile, hideOperands, hideSlots_hideSlots, hidePayload_hidePayload,
    hideGateResult_hideGateResult, hideEvent_hideEvent, Option.map_map, List.map_map, List.length_replicate, Function.comp_def]

section
variable (s : State)

theorem readW_hideState (i : Nat) : readW (hideState s) i = (readW s i).map fun _ => 0 := by
  unfold readW
  split
  · exact hideFile_get s.W _
  · rfl

theorem readM_hideState (i : Nat) : readM (hideState s) i = (readM s i).map fun _ => 0 := by
  unfold readM
  split
  · change (if s.LDMASK.getLsbD i then _ else _) = _
    split
    · exact hideFile_get s.M _
    · rfl
  · rfl

/-- R203: whether the buffer is readable is public. -/
theorem blockReadable_hideState : blockReadable (hideState s) = blockReadable s := by
  simp only [blockReadable, readM_hideState, Option.isSome_map]

/-- R171: which words the capture copies is public. -/
theorem capturedW_hideState : capturedW (hideState s) = hideFile (capturedW s) := by
  ext1 i hi
  rw [hideFile_get _ hi, capturedW_get _ i hi, capturedW_get s i hi, apply_ite (Option.map _), readM_hideState]
  exact congrArg _ (hideFile_get s.W hi)

/-! ### Hiding goes through every operation on the state

Each operation on a state, on whatever encrypted operands, is on the hidden state the same operation on zeros. -/

@[simp] theorem hideState_draws : (hideState s).draws = s.draws := rfl

section
variable (m : Mode) (c : Code) (k : FailKind) (h : Vector EWord 8) (w : EWord)

@[simp] theorem hideState_respond (p : Payload) :
    hideState (s.respond c p) = (hideState s).respond c (hidePayload p) := rfl

@[simp] theorem hideState_answerIllegal : hideState s.answerIllegal = (hideState s).answerIllegal := rfl

@[simp] theorem hideState_dropDraw : hideState s.dropDraw = (hideState s).dropDraw := rfl

@[simp] theorem hideState_endBlock : hideState (s.endBlock m c) = (hideState s).endBlock m c := by
  simp only [hideState, State.endBlock, State.forgetSequencer, hideFile_unwritten, Option.map_none]

@[simp] theorem hideState_failBlock : hideState (s.failBlock k) = (hideState s).failBlock k := hideState_endBlock s _ _

@[simp] theorem hideState_failRequest : hideState (s.failRequest k) = (hideState s).failRequest k := by
  by_cases mode : s.ST = .busy
  · rw [failRequest_busy s k mode, failRequest_busy (hideState s) k mode, hideState_failBlock]
  · rw [failRequest_not_busy s k mode, failRequest_not_busy (hideState s) k mode]

@[simp] theorem hideState_initDone : hideState (s.initDone h) = (hideState s).initDone (Vector.replicate 8 0) := by
  simp only [State.initDone, hideState_endBlock]
  simp only [hideState, hideFile_unwritten, Option.map_some]

@[simp] theorem hideState_initFailed : hideState (s.initFailed k) = (hideState s).initFailed k := by
  simp only [State.initFailed, hideState_endBlock]
  simp only [hideState, hideFile_unwritten, Option.map_none]

@[simp] theorem hideState_loadWord (i : BitVec 4) : hideState (s.loadWord i w) = (hideState s).loadWord i 0 := by
  simp only [hideState, State.loadWord, hideFile_set]

@[simp] theorem hideState_capture : hideState (s.capture h) = (hideState s).capture (Vector.replicate 8 0) := by
  rw [State.capture, State.capture, capturedW_hideState]
  rfl

@[simp] theorem hideState_commitBlock : hideState (s.commitBlock h) = (hideState s).commitBlock (Vector.replicate 8 0) :=
  hideState_endBlock _ _ _

@[simp] theorem hideState_advance : hideState s.advance = (hideState s).advance := rfl

@[simp] theorem hideState_writeW : hideState (s.writeW w) = (hideState s).writeW 0 := by
  simp only [hideState, State.writeW, hideFile_set]

@[simp] theorem hideState_writeV : hideState (s.writeV h) = (hideState s).writeV (Vector.replicate 8 0) := rfl

@[simp] theorem hideState_gateAnswer (ds : List Draw) (r : Option GateResult) :
    hideState { s with draws := ds, gateResult := r } =
      { hideState s with draws := ds, gateResult := r.map hideGateResult } := rfl

@[simp] theorem hideState_wordAnswer (ds : List Draw) (d : Option EWord) :
    hideState { s with draws := ds, D := d } = { hideState s with draws := ds, D := d.map fun _ => 0 } := rfl

end

end

/-! ### Outcomes that differ in encrypted values only -/

/-- Two states that differ only in encrypted values. -/
abbrev Alike (s t : State) : Prop := hideState s = hideState t

/-- Two outcomes of the same kind: next values that `R` relates, the same fault, or the same refusal. -/
inductive SameKind {α : Type} (R : α → α → Prop) : Host.Outcome α Fault Refusal → Host.Outcome α Fault Refusal → Prop
  | next {a b : α} (related : R a b) : SameKind R (.next a) (.next b)
  | fault (r : Fault) : SameKind R (.fault r) (.fault r)
  | refused (r : Refusal) : SameKind R (.refused r) (.refused r)

theorem SameKind.hideOutcome_eq {o o' : Host.Outcome State Fault Refusal} (h : SameKind Alike o o') :
    hideOutcome o = hideOutcome o' := by
  cases h with
  | next alike => exact congrArg Host.Outcome.next alike
  | fault | refused => rfl

section
variable {α β : Type} {R : α → α → Prop} {Q : β → β → Prop}

theorem SameKind.andThen {o o' : Host.Outcome α Fault Refusal} {f f' : α → Host.Outcome β Fault Refusal}
    (first : SameKind R o o') (rest : ∀ a b, R a b → SameKind Q (f a) (f' b)) :
    SameKind Q (andThen o f) (Machine.andThen o' f') := by
  cases first with
  | next related => exact rest _ _ related
  | fault r => exact .fault r
  | refused r => exact .refused r

/-- Only whether a file holds a value decides whether reading it faults. -/
theorem written_sameKind (r : Store) (o : Option α) (f : α → α) :
    SameKind (fun _ _ => True) (written r o) (written r (o.map f)) := by
  cases o with
  | none => exact .fault _
  | some x => exact .next trivial

end

/-- In two lists of one length the same places hold a value. -/
theorem getElem?_of_length_eq {α : Type} {l l' : List α} (length : l.length = l'.length) (k : Nat) :
    (l[k]? = none ∧ l'[k]? = none) ∨ ∃ a b, l[k]? = some a ∧ l'[k]? = some b := by
  by_cases hk : k < l.length
  · exact .inr ⟨_, _, List.getElem?_eq_getElem hk, List.getElem?_eq_getElem (length ▸ hk)⟩
  · exact .inl ⟨List.getElem?_eq_none (by omega), List.getElem?_eq_none (by omega)⟩

/-- Which instructions are word operators, and which of those make a request, does not depend on the operands (R103). -/
theorem wordCircuit_operands (i : Instr) (p : Params) (o o' : Operands) :
    (wordCircuit i p o = none ∧ wordCircuit i p o' = none) ∨
      ∃ x x', wordCircuit i p o = some x ∧ wordCircuit i p o' = some x' ∧ makesRequest x = makesRequest x' := by
  cases i
  case init | load | absorb | read | status | abort | and | or | xor | not | mux | triv | xork => exact .inl ⟨rfl, rfl⟩
  all_goals refine .inr ⟨_, _, rfl, rfl, ?_⟩
  case rotr n => rw [rotateCircuit_makesRequest, rotateCircuit_makesRequest]
  case shr n => rw [shiftCircuit_makesRequest _ _ n.isLt.le, shiftCircuit_makesRequest _ _ n.isLt.le]
  all_goals simp only [addCircuit_makesRequest, constAddCircuit_makesRequest, xorCircuit_makesRequest,
    chooseCircuit_makesRequest, majorityCircuit_makesRequest, bigSigma0Circuit_makesRequest, bigSigma1Circuit_makesRequest,
    smallSigma0Circuit_makesRequest, smallSigma1Circuit_makesRequest, trivialCircuit_makesRequest]

/-! ### The meanings on a state and on the hidden state -/

section
variable (s : State)

theorem inModes_sameKind {modes : List Mode} {body body' : Host.Outcome State Fault Refusal}
    (bodies : SameKind Alike body body') : SameKind Alike (inModes modes s body) (inModes modes (hideState s) body') := by
  by_cases mode : s.ST ∈ modes
  · rwa [inModes_accept _ s _ mode, inModes_accept _ (hideState s) _ mode]
  · rw [inModes_refuse _ s _ mode, inModes_refuse _ (hideState s) _ mode]
    exact .next (by simp [Alike])

theorem finishGate_sameKind (x x' : Circuit EBit) : SameKind Alike (finishGate x s) (finishGate x' (hideState s)) := by
  cases draw : s.nextDraw with
  | success =>
    rw [finishGate_success x s draw, finishGate_success x' (hideState s) draw]
    exact .next (by simp [Alike, hideGateResult])
  | fail k =>
    rw [finishGate_fail x s k draw, finishGate_fail x' (hideState s) k draw]
    exact .next (by simp [Alike, hideGateResult])

theorem finishWord_sameKind {x x' : Circuit EWord} (requests : makesRequest x' = makesRequest x) :
    SameKind Alike (finishWord x s) (finishWord x' (hideState s)) := by
  cases hr : makesRequest x with
  | false =>
    rw [finishWord_wiring x s hr, finishWord_wiring x' (hideState s) (requests.trans hr)]
    exact .next (by simp [Alike])
  | true =>
    cases draw : s.nextDraw with
    | success =>
      rw [finishWord_success x s hr draw, finishWord_success x' (hideState s) (requests.trans hr) draw]
      exact .next (by simp [Alike])
    | fail k =>
      rw [finishWord_fail x s k hr draw, finishWord_fail x' (hideState s) k (requests.trans hr) draw]
      exact .next (by simp [Alike])

theorem finishMicroStep_alike {commit commit' : State → State}
    (commits : Alike (commit s.dropDraw) (commit' (hideState s).dropDraw)) :
    Alike (finishMicroStep s commit) (finishMicroStep (hideState s) commit') := by
  cases draw : s.nextDraw with
  | success => rwa [finishMicroStep_success s commit draw, finishMicroStep_success (hideState s) commit' draw]
  | fail k =>
    rw [finishMicroStep_fail s commit k draw, finishMicroStep_fail (hideState s) commit' k draw]
    simp [Alike]

/-! #### The commands -/

theorem execInit_sameKind : SameKind Alike (execInit s) (execInit (hideState s)) := by
  have draw : (hideState s).nextDraw = s.nextDraw := rfl
  rw [execInit, execInit, draw]
  cases s.nextDraw <;> exact .next (by simp [Alike])

theorem execLoad_sameKind (idx : BitVec 4) : SameKind Alike (execLoad idx s) (execLoad idx (hideState s)) := by
  have length : (hideState s).data.length = s.data.length := List.length_replicate
  refine inModes_sameKind s ?_
  rw [length]
  split <;> exact .next (by simp [Alike])

theorem execAbsorb_sameKind : SameKind Alike (execAbsorb s) (execAbsorb (hideState s)) := by
  have mask : (hideState s).LDMASK = s.LDMASK := rfl
  refine inModes_sameKind s ?_
  rw [mask, blockReadable_hideState]
  split
  · split
    · exact (written_sameKind .H s.H _).andThen fun h h' _ => .next (by simp [Alike])
    · exact .fault _
  · exact .next (by simp [Alike])

theorem execRead_sameKind (idx : BitVec 4) : SameKind Alike (execRead idx s) (execRead idx (hideState s)) := by
  unfold execRead
  split
  · exact inModes_sameKind s ((written_sameKind .H s.H _).andThen fun h h' _ => .next (by simp [Alike, hidePayload]))
  · exact .next (by simp [Alike])

theorem execStatus_sameKind : SameKind Alike (execStatus s) (execStatus (hideState s)) := by
  have word : statusWord (hideState s) = statusWord s := rfl
  rw [execStatus, execStatus, word]
  exact .next (by simp [Alike])

theorem execAbort_sameKind : SameKind Alike (execAbort s) (execAbort (hideState s)) :=
  inModes_sameKind s (.next (by simp [Alike]))

theorem exec_sameKind (i : Instr) : SameKind Alike (exec i s) (exec i (hideState s)) := by
  obtain ⟨hx, -⟩ | ⟨x, x', hx, hx', requests⟩ := wordCircuit_operands i s.params s.operands (hideState s).operands
  · cases i
    case init => exact execInit_sameKind s
    case load idx => exact execLoad_sameKind s idx
    case absorb => exact execAbsorb_sameKind s
    case read idx => exact execRead_sameKind s idx
    case status => exact execStatus_sameKind s
    case abort => exact execAbort_sameKind s
    case and | or | xor | not | mux | triv | xork => exact finishGate_sameKind s _ _
    all_goals cases hx
  · rw [exec_wordCircuit hx, exec_wordCircuit (s := hideState s) hx']
    exact finishWord_sameKind s requests.symm

/-! #### The controller -/

theorem readSrc_sameKind {results results' : List EWord} (length : results.length = results'.length) (x : Src) :
    SameKind (fun _ _ => True) (readSrc s results x) (readSrc (hideState s) results' x) := by
  cases x with
  | schedule back =>
    rw [readSrc, readSrc, readW_hideState]
    exact written_sameKind _ _ _
  | working j => exact (written_sameKind .V s.V _).andThen fun _ _ _ => .next trivial
  | chaining j => exact (written_sameKind .H s.H _).andThen fun _ _ _ => .next trivial
  | line k =>
    rw [readSrc, readSrc]
    obtain ⟨e, e'⟩ | ⟨a, b, e, e'⟩ := getElem?_of_length_eq length k <;> rw [e, e']
    · exact .fault _
    · exact .next trivial

theorem readSrcs_sameKind {results results' : List EWord} (length : results.length = results'.length) (xs : List Src) :
    SameKind (fun _ _ => True) (readSrcs s results xs) (readSrcs (hideState s) results' xs) := by
  induction xs with
  | nil => exact .next trivial
  | cons x xs ih =>
    exact (readSrc_sameKind s length x).andThen fun _ _ _ => ih.andThen fun _ _ _ => .next trivial

theorem runLine_sameKind {results results' : List EWord} (length : results.length = results'.length) (l : Line) :
    SameKind (fun _ _ => True) (runLine s results l) (runLine (hideState s) results' l) := by
  refine (readSrcs_sameKind s length l.srcs).andThen fun ws ws' _ => ?_
  cases decodeUop16 l.uop with
  | error e => exact .refused _
  | ok i =>
    have params : (hideState s).params = s.params := rfl
    obtain ⟨hx, hx'⟩ | ⟨x, x', hx, hx', -⟩ :=
      wordCircuit_operands i s.params (lineOperands s ws) (lineOperands (hideState s) ws') <;> simp only [params, hx, hx']
    · exact .refused _
    · exact .next trivial

theorem runLines_sameKind (ls : List Line) {done done' : Circuit (List EWord)} (length : done.out.length = done'.out.length) :
    SameKind (fun x x' => x.out.length = x'.out.length) (runLines s ls done) (runLines (hideState s) ls done') := by
  induction ls generalizing done done' with
  | nil => exact .next length
  | cons l ls ih => exact (runLine_sameKind s length l).andThen fun x x' _ => ih (by simp [length])

theorem schedStep_sameKind : SameKind Alike (schedStep s) (schedStep (hideState s)) := by
  have round : (hideState s).T = s.T := rfl
  rw [schedStep, schedStep, round]
  split
  · exact .fault _
  · refine (runLines_sameKind s schedLines rfl).andThen fun x x' length => ?_
    obtain ⟨e, e'⟩ | ⟨a, b, e, e'⟩ := getElem?_of_length_eq length 4 <;> rw [e, e']
    · exact .fault _
    · exact .next (finishMicroStep_alike s (by simp [Alike]))

theorem roundStep_sameKind : SameKind Alike (roundStep s) (roundStep (hideState s)) := by
  refine (runLines_sameKind s roundLines rfl).andThen fun x x' length => ?_
  refine (written_sameKind .V s.V _).andThen fun v v' _ => ?_
  obtain ⟨e, e'⟩ | ⟨a, b, e, e'⟩ := getElem?_of_length_eq length 9 <;> rw [e, e']
  · exact .fault _
  obtain ⟨e, e'⟩ | ⟨a, b, e, e'⟩ := getElem?_of_length_eq length 10 <;> rw [e, e']
  · exact .fault _
  · exact .next (finishMicroStep_alike s (by simp [Alike]))

theorem ffStep_sameKind : SameKind Alike (ffStep s) (ffStep (hideState s)) := by
  refine (runLines_sameKind s ffLines rfl).andThen fun x x' length => ?_
  by_cases eight : x.out.length = 8
  · rw [eightWords, eightWords, dif_pos eight, dif_pos (length ▸ eight)]
    exact .next (finishMicroStep_alike s (by simp [Alike]))
  · rw [eightWords, eightWords, dif_neg eight, dif_neg (length ▸ eight)]
    exact .fault _

theorem microStep_sameKind : SameKind Alike (microStep s) (microStep (hideState s)) := by
  by_cases mode : s.ST = .busy
  · cases phase : s.PHASE with
    | sched =>
      rw [microStep_sched s mode phase, microStep_sched (hideState s) mode phase]
      exact schedStep_sameKind s
    | round =>
      rw [microStep_round s mode phase, microStep_round (hideState s) mode phase]
      exact roundStep_sameKind s
    | ff =>
      rw [microStep_ff s mode phase, microStep_ff (hideState s) mode phase]
      exact ffStep_sameKind s
  · rw [microStep_idle s mode, microStep_idle (hideState s) mode]
    exact .next (by simp [Alike])

/-! #### The step -/

/-- Latching the hidden event's operands on the hidden state hides the latched state, so both run the same instruction. -/
theorem step_sameKind : SameKind Alike (step s) (step (hideState s)) := by
  have hidden {es : List Event} (h : s.pending = es) : (hideState s).pending = es.map hideEvent := congrArg _ h
  cases hp : s.pending with
  | nil =>
    rw [step_idle_turn s hp, step_idle_turn _ (hidden hp)]
    exact microStep_sameKind s
  | cons event es =>
    cases event with
    | microStep =>
      rw [step_microStep s es hp, step_microStep _ _ (hidden hp)]
      exact microStep_sameKind { s with pending := es }
    | command w data =>
      cases hd : decodeCmd32 w with
      | ok i =>
        rw [step_command hp hd, step_command (hidden hp) hd]
        exact exec_sameKind { s with pending := es, data := data } i
      | error e =>
        rw [step_illegalCommand hp hd, step_illegalCommand (hidden hp) hd]
        exact .next (hideState_hideState (State.answerIllegal { s with pending := es, data := data })).symm
    | wordOp w o =>
      cases hd : decodeUop16 w with
      | ok i =>
        rw [step_wordOp hp hd, step_wordOp (hidden hp) hd]
        exact exec_sameKind { s with pending := es, operands := o } i
      | error e =>
        rw [step_reservedWordOp hp hd, step_reservedWordOp (hidden hp) hd]
        exact .refused _
    | gateRequest b slots =>
      cases hd : decodeGate8 b with
      | ok i =>
        rw [step_gateRequest hp hd, step_gateRequest (hidden hp) hd]
        exact exec_sameKind { s with pending := es, slots := slots } i
      | error e =>
        rw [step_reservedGate hp hd, step_reservedGate (hidden hp) hd]
        exact .refused _

end

/-- Settles O51: a step of either state differs from the step of the hidden state, which they share, in encrypted values only. -/
theorem nothingPublicDependsOnAnEncryptedValue : Obligations.NothingPublicDependsOnAnEncryptedValue := by
  intro s s' alike
  calc hideOutcome (step s) = hideOutcome (step (hideState s)) := (step_sameKind s).hideOutcome_eq
    _ = hideOutcome (step (hideState s')) := by rw [alike]
    _ = hideOutcome (step s') := (step_sameKind s').hideOutcome_eq.symm

end Sys2Proof.Machine

/-! # Refused commands, and HALTED (R200, R207, R234, R238, R242) -/

namespace Sys2Proof.Machine

/-! ### Illegal command words (R207) -/

/-- The opcodes of R75's rows, and how much of IDX each row leaves free. -/
theorem cmdRowFields_opcodes :
    ∀ f ∈ cmdRowFields, f.1 ≠ 0 ∧ f.1.toNat < 7 ∧ (f.1 = 1 ∨ f.1 = 3 ∨ f.1 = 5 ∨ f.1 = 6 → f.2 = BitVec.allOnes 4) ∧
      (f.1 = 4 → f.2 = 8) := by
  intro f hf
  fin_cases hf <;> decide

/-- R204: with its top bit 0 an index is below 8. -/
theorem index_lt_eight : ∀ idx : BitVec 4, idx &&& 8 = 0 → idx.toNat < 8 := by decide

theorem decodeCmd32_not_illegal {w : BitVec 32} {i : Instr} (h : decodeCmd32 w = .ok i) :
    ¬((∀ r ∈ cmdRows, r.fits w = false) ∨ (cmdOp w = 0 ∨ 7 ≤ (cmdOp w).toNat) ∨ cmdRsv w ≠ 0 ∨
      (cmdIdx w ≠ 0 ∧ (cmdOp w = 1 ∨ cmdOp w = 3 ∨ cmdOp w = 5 ∨ cmdOp w = 6)) ∨
      (cmdOp w = 4 ∧ 8 ≤ (cmdIdx w).toNat)) := by
  have fitting := (decodeCmd32_iff_fits w).mp ⟨i, h⟩
  obtain ⟨f, hf, hop, hrsv, hidx⟩ := exists_cmdRow_fits.mp fitting
  obtain ⟨nonzero, low, unindexed, reads⟩ := cmdRowFields_opcodes f hf
  rw [hop]
  rintro (no_row | (zero | high) | rsv | ⟨idx, op⟩ | ⟨op, idx⟩)
  · obtain ⟨r, hr, fits⟩ := fitting
    simp [no_row r hr] at fits
  · exact nonzero zero
  · omega
  · exact rsv hrsv
  · rw [unindexed op, BitVec.and_allOnes] at hidx
    exact idx hidx
  · rw [reads op] at hidx
    exact absurd (index_lt_eight _ hidx) (by omega)

/-- Settles O8: no word that decodes has one of R207's defects, and a word that does not decode is answered with code 4. -/
theorem illegalCommandChangesNoState : Obligations.IllegalCommandChangesNoState := by
  intro s w data es event illegal
  cases hd : decodeCmd32 w with
  | error e => exact step_illegalCommand event hd
  | ok i => exact absurd illegal (decodeCmd32_not_illegal hd)

/-! ### Mode, then operands (R200) -/

theorem mode_mem_singleton {m m' : Mode} (h : (m == m') = true) : m ∈ [m'] := List.mem_singleton.mpr (beq_iff_eq.mp h)

theorem mode_not_mem_singleton {m m' : Mode} (h : (m == m') = false) : m ∉ [m'] :=
  fun member => beq_eq_false_iff_ne.mp h (List.mem_singleton.mp member)

/-- A state whose response has none of the three refusal codes. -/
abbrev RanCommand (t : State) : Prop := ∃ r, t.response = some r ∧ r.rc ∉ [Code.illegalCommand, .protocol, .malformedInput]

theorem respond_ranCommand {t : State} {c : Code} {p : Payload} (code : c ∉ [Code.illegalCommand, .protocol, .malformedInput]) :
    Ensures RanCommand (.next (t.respond c p)) :=
  (ensures_next _).mpr ⟨_, rfl, code⟩

section
variable {i : Instr} {s : State}

/-- R200, step 2: a command in a mode that does not accept it. -/
theorem exec_protocol (wf : i.wellFormed = true) (refused : acceptedIn i s.ST = false) :
    exec i s = .next (s.respond .protocol .empty) := by
  cases i
  case load | absorb | abort => exact inModes_refuse _ s _ (mode_not_mem_singleton refused)
  case read idx => exact (dif_pos (of_decide_eq_true wf)).trans (inModes_refuse _ s _ (mode_not_mem_singleton refused))
  all_goals cases refused

variable (accepted : acceptedIn i s.ST = true)
include accepted

/-- R200, step 3: an accepted command with a bad operand. -/
theorem exec_malformed (bad : ¬OperandsFit i s) : exec i s = .next (s.respond .malformedInput .empty) := by
  cases i
  case load idx =>
    have length : s.data.length ≠ 32 := fun length => bad ⟨fun _ _ => length, nofun⟩
    exact (inModes_accept _ s _ (mode_mem_singleton accepted)).trans (if_neg length)
  case absorb =>
    have mask : s.LDMASK ≠ 0xFFFF := fun mask => bad ⟨nofun, fun _ => mask⟩
    exact (inModes_accept _ s _ (mode_mem_singleton accepted)).trans (if_neg mask)
  all_goals exact absurd ⟨nofun, nofun⟩ bad

/-- R200, step 4: an instruction of CMD32 that passes the checks, if it answers, answers with no refusal code. -/
theorem exec_ranCommand {w : BitVec 32} (code : encode i = .cmd32 w) (wf : i.wellFormed = true) (fit : OperandsFit i s) :
    Ensures RanCommand (exec i s) := by
  obtain ⟨length, full⟩ := fit
  cases i
  case init =>
    change Ensures _ (execInit s)
    unfold execInit
    cases s.nextDraw with
    | success => exact respond_ranCommand (by decide)
    | fail k => exact respond_ranCommand (by cases k <;> decide)
  case load idx =>
    refine inModes_ensures (fun _ => ?_) (absurd (mode_mem_singleton accepted))
    rw [if_pos (length idx rfl)]
    exact respond_ranCommand (by decide)
  case absorb =>
    refine inModes_ensures (fun _ => ?_) (absurd (mode_mem_singleton accepted))
    rw [if_pos (full rfl)]
    split
    · exact andThen_ensures fun h _ => respond_ranCommand (by decide)
    · exact ensures_fault _
  case read idx =>
    change Ensures _ (execRead idx s)
    rw [execRead, dif_pos (of_decide_eq_true wf)]
    exact inModes_ensures (fun _ => andThen_ensures fun hs _ => respond_ranCommand (by decide))
      (absurd (mode_mem_singleton accepted))
  case status => exact respond_ranCommand (by decide)
  case abort => exact inModes_ensures (fun _ => respond_ranCommand (by decide)) (absurd (mode_mem_singleton accepted))
  all_goals cases code

end

/-- Settles O36: a word that decodes is a well-formed command's encoding, whose mode is checked before its operands; under the
invariant it then answers. -/
theorem commandChecksRunInOrder : Obligations.CommandChecksRunInOrder := by
  intro s w data es event
  refine ⟨fun e hd => step_illegalCommand event hd, fun i hd refused => ?_, fun i hd accepted bad => ?_,
    fun i hd accepted fit inv => ?_⟩
  · obtain ⟨-, wf⟩ := decode_reads (.cmd32 w) i hd
    exact (step_command event hd).trans (exec_protocol wf refused)
  · exact (step_command event hd).trans (exec_malformed accepted bad)
  · obtain ⟨code, wf⟩ := decode_reads (.cmd32 w) i hd
    obtain ⟨t, ht⟩ := exec_answers (s := { s with pending := es, data := data }) (engineInv_congr rfl inv) i
    obtain ⟨r, hr, ran⟩ := exec_ranCommand (s := { s with pending := es, data := data }) accepted code wf fit t ht
    exact ⟨t, r, (step_command event hd).trans ht, hr, ran⟩

/-! ### HALTED (R242) -/

/-- Of the effects only INIT's lead from HALTED to another mode. -/
theorem Effect.leaves_halted {init turn : Prop} {d : Draw} {a b : State} (effect : Effect init turn d a b)
    (halted : a.ST = .halted) (left : b.ST ≠ .halted) : init := by
  cases effect with
  | unchanged => exact absurd halted left
  | initDone event => exact event
  | initFailed k event => exact event
  | loaded i w mode | captured h mode | aborted mode | blockFailed k draw mode | scheduled w event draw mode
  | rounded v event draw mode | committed h v event draw mode => cases halted.symm.trans mode

/-- Settles O48: the step's effect, read at the mode. -/
theorem onlyInitLeavesHalted : Obligations.OnlyInitLeavesHalted :=
  fun s t halted h left => (step_effect s t h).leaves_halted halted left

end Sys2Proof.Machine

/-! # Retry after EVALUATION_FAILURE (R177, R233, R265) -/

namespace Sys2Proof.Machine

section
variable (s : State) {h : Vector EWord 8} (m : Vector EWord 16) {n : Nat}

/-- R172, R173, R175: at every position of a block the micro-step finds what it reads written, so only the draw decides whether it
commits. -/
theorem microStep_inBlock_finishes (chain : s.H = some h) (hn : n < 113) :
    ∃ commit, microStep (s.inBlock h m n) = .next (finishMicroStep (s.inBlock h m n) commit) := by
  have inside := (s.inBlock h m n).T.isLt
  by_cases hs : n < 48
  · have position := T_inBlock_sched s h m hs
    have reads {back : Nat} (hb : 1 ≤ back) :=
      readW_inBlock s h m (n := n) (i := (s.inBlock h m n).T.val - back) (by omega) (by omega)
    exact ⟨_, (microStep_sched _ rfl (congrArg Prod.fst (blockPosition_sched hs))).trans
      (schedStep_next _ _ _ _ _ (by omega) (reads (by decide)) (reads (by decide)) (reads (by decide)) (reads (by decide)))⟩
  by_cases hr : n < 112
  · have position := T_inBlock_round s h m (by omega) hr
    exact ⟨_, (microStep_round _ rfl (congrArg Prod.fst (blockPosition_round (by omega) hr))).trans
      (roundStep_next _ _ _ rfl (readW_inBlock s h m inside (by omega)))⟩
  · obtain rfl : n = 112 := by omega
    exact ⟨_, (microStep_ff _ rfl rfl).trans (ffStep_next _ h _ chain rfl)⟩

theorem microStep_inBlock_fails {k : FailKind} (chain : s.H = some h) (draw : s.nextDraw = .fail k) (hn : n < 113) :
    microStep (s.inBlock h m n) = .next ((s.dropDraw.inBlock h m n).failBlock k) := by
  obtain ⟨commit, finishes⟩ := microStep_inBlock_finishes s m chain hn
  rw [finishes, finishMicroStep_fail (s.inBlock h m n) commit k draw]
  rfl

/-- R177: `n` successful micro-steps of a block and a failing one. -/
theorem run_inBlock_fails {s : State} {k : FailKind} {es : List Event} {ds : List Draw} (chain : s.H = some h)
    (events : s.pending = List.replicate (n + 1) .microStep ++ es)
    (draws : s.draws = List.replicate n .success ++ .fail k :: ds) (hn : n < 113) :
    core.run (n + 1) (s.inBlock h m 0) =
      .next ((({ s with pending := es, draws := ds } : State).inBlock h m n).failBlock k) := by
  have success : DrawsSucceed s n := by
    intro d hd
    rw [draws, List.take_left' (by simp)] at hd
    exact List.eq_of_mem_replicate hd
  have turns : s.pending = List.replicate n .microStep ++ .microStep :: es := by
    rw [events, List.replicate_succ', List.append_assoc, List.singleton_append]
  have turn : ((s.consumed n).inBlock h m n).pending = .microStep :: es := by
    change s.pending.drop n = _
    rw [turns, List.drop_left' (by simp)]
  have draw : s.draws.drop n = .fail k :: ds := by rw [draws, List.drop_left' (by simp)]
  have fails := microStep_inBlock_fails { s.consumed n with pending := es } m chain (nextDraw_cons _ _ _ draw) hn
  rw [run_add 1 (run_inBlock h m turns success le_rfl (by omega)), run_succ 0 ((step_microStep _ _ turn).trans fails)]
  simp only [Host.Core.run, State.dropDraw, State.consumed, draw, List.tail_cons]

/-- R177, R233: ABSORB, `n` successful micro-steps and a failing one leave `H`, `M` and LDMASK for another ABSORB. -/
theorem run_absorb_fails {s : State} {k : FailKind} {data : List EBit} {es : List Event} {ds : List Draw}
    (event : s.pending = .command 0x30000000 data :: (List.replicate (n + 1) .microStep ++ es))
    (draws : s.draws = List.replicate n .success ++ .fail k :: ds) (mode : s.ST = .idle) (mask : s.LDMASK = 0xFFFF)
    (chain : s.H = some h) (message : ∀ i : Fin 16, s.M[i] = some m[i]) (hn : n < 113) :
    ∃ t, core.run (n + 2) s = .next t ∧ t.pending = es ∧ t.draws = ds ∧ t.ST = k.blockMode ∧ t.LDMASK = 0xFFFF ∧
      t.H = some h ∧ t.M = s.M :=
  ⟨_, (run_succ (n + 1) (step_absorb event mode mask chain message)).trans
    (run_inBlock_fails m (s := s.absorbed data _) chain rfl draws hn), rfl, rfl, rfl, mask, chain, rfl⟩

end

/-- Settles O54: the failure leaves `H`, `M` and LDMASK for a second block, which commits as a first one does. -/
theorem retryCommitsTheSameValue : Obligations.RetryCommitsTheSameValue := by
  intro s data data' es h m n hn event draws mode mask chain message
  obtain ⟨t, failed, event', draws', mode', mask', chain', words⟩ :=
    run_absorb_fails m event draws mode mask chain message hn
  have success : DrawsSucceed t 113 := fun d hd => List.eq_of_mem_replicate (draws' ▸ List.mem_of_mem_take hd)
  obtain ⟨_, _, _, retry⟩ :=
    blockCommitsTheCompressionFunction t data' es h m event' mode' mask' chain' (words ▸ message) success
  exact ⟨_, (run_add 114 failed).trans retry, rfl, rfl, rfl, rfl⟩

end Sys2Proof.Machine

/-! # Reset, and the requests of the word operators (R37, R260, R272) -/

namespace Sys2Proof.Machine

/-- Settles O42: the reset state's fields, both files unwritten word by word, and its STATUS word's fields all 0. -/
theorem resetLeavesTheStatedValues : Obligations.ResetLeavesTheStatedValues := by
  have status : statusWord State.reset = 0 := (statusWord_eq_fields State.reset).trans (by decide)
  exact ⟨rfl, rfl, rfl, fun i => Vector.getElem_replicate i.isLt, fun i => Vector.getElem_replicate i.isLt, rfl, rfl, status⟩

/-! ### The requests of a kind of gate

`countOf` and `interactiveCount` both count the requests whose gate is of a kind `q`: one gate, or the interactive gates. A count of
either sort is the sum of the counts of the circuits that `feed` joins. -/

/-- How many requests of a circuit are for a gate of the kind `q`. -/
def Circuit.tally {α : Type} (q : Gate → Bool) (x : Circuit α) : Nat := x.reqs.countP fun r => q r.gate

theorem countOf_eq_tally {α : Type} (x : Circuit α) (g : Gate) : countOf x g = x.tally (· == g) := rfl

theorem interactiveCount_eq_tally {α : Type} (x : Circuit α) : interactiveCount x = x.tally isInteractive := rfl

/-- R108: what one MUX counts for, fused and unfused. -/
def muxTally (p : Params) (q : Gate → Bool) : Nat :=
  if p.muxFused then (q .mux).toNat else (q .not).toNat + 2 * (q .and).toNat + (q .or).toNat

section
variable {α β : Type} (q : Gate → Bool) (p : Params)

@[simp] theorem wire_tally (x : α) : (wire x).tally q = 0 := rfl

@[simp] theorem feed_tally (x : Circuit α) (f : α → Circuit β) : (feed x f).tally q = x.tally q + (f x.out).tally q := by
  simp [Circuit.tally]

@[simp] theorem sendRequest_tally (g : Gate) (s : Slots) : (sendRequest p g s).tally q = (q g).toNat := by
  cases h : q g <;> simp [Circuit.tally, h]

@[simp] theorem request_tally (g : Gate) (a b c : EBit) : (request p g a b c).tally q = (q g).toNat :=
  sendRequest_tally q p g _

@[simp] theorem muxCircuit_tally (sel x y : EBit) : (muxCircuit p sel x y).tally q = muxTally p q := by
  cases h : p.muxFused
  · simp only [muxCircuit, muxSlots, muxTally, h, feed_tally, sendRequest_tally, Bool.false_eq_true, if_false]
    omega
  · simp [muxCircuit, muxSlots, muxTally, h]

theorem majCircuit_tally {p : Params} (reference : p.maj = .andOr) (a b c : EBit) :
    (majCircuit p a b c).tally q = 3 * (q .and).toNat + 2 * (q .or).toNat := by
  simp only [majCircuit, reference, feed_tally, request_tally]
  omega

/-! ### Bitwise operators -/

theorem gatherBits_tally {f : Nat → Circuit EBit} {c : Nat} (each : ∀ i, (f i).tally q = c) (n : Nat) :
    (gatherBits f n).tally q = n * c := by
  induction n with
  | zero => simp [gatherBits]
  | succ n ih => simp [gatherBits, ih, each, Nat.add_one_mul]

/-- R130: a bitwise operator counts for 32 times what each position counts for. -/
theorem eachBit_tally {f : Nat → Circuit EBit} {c : Nat} (each : ∀ i, (f i).tally q = c) : (eachBit f).tally q = 32 * c :=
  gatherBits_tally q each 32

@[simp] theorem xorCircuit_tally (a b : EWord) : (xorCircuit p a b).tally q = 32 * (q .xor).toNat :=
  eachBit_tally q fun _ => request_tally q p _ _ _ _

@[simp] theorem chooseCircuit_tally (e f g : EWord) : (chooseCircuit p e f g).tally q = 32 * muxTally p q :=
  eachBit_tally q fun _ => muxCircuit_tally q p _ _ _

theorem majorityCircuit_tally {p : Params} (reference : p.maj = .andOr) (a b c : EWord) :
    (majorityCircuit p a b c).tally q = 32 * (3 * (q .and).toNat + 2 * (q .or).toNat) :=
  eachBit_tally q fun _ => majCircuit_tally q reference _ _ _

@[simp] theorem rotateCircuit_tally (w : EWord) (n : Nat) : (rotateCircuit w n).tally q = 0 := by
  simp [Circuit.tally, rotateCircuit_reqs]

theorem shiftCircuit_tally (w : EWord) {n : Nat} (hn : n ≤ 32) :
    (shiftCircuit p w n).tally q = n * (q (.triv false)).toNat := by
  cases h : q (.triv false) <;> simp [Circuit.tally, shiftCircuit_reqs p w hn, List.countP_replicate, h]

/-- R140 to R143: a composition makes its three words and two XOR32. -/
theorem xor3Circuit_tally (x y z : Circuit EWord) :
    (xor3Circuit p x y z).tally q = x.tally q + y.tally q + z.tally q + 64 * (q .xor).toNat := by
  simp only [xor3Circuit, feed_tally, xorCircuit_tally]
  omega

theorem bigSigma0Circuit_tally (x : EWord) : (bigSigma0Circuit p x).tally q = 64 * (q .xor).toNat := by
  simp [bigSigma0Circuit, xor3Circuit_tally]

theorem bigSigma1Circuit_tally (x : EWord) : (bigSigma1Circuit p x).tally q = 64 * (q .xor).toNat := by
  simp [bigSigma1Circuit, xor3Circuit_tally]

theorem smallSigma0Circuit_tally (x : EWord) :
    (smallSigma0Circuit p x).tally q = 3 * (q (.triv false)).toNat + 64 * (q .xor).toNat := by
  simp [smallSigma0Circuit, xor3Circuit_tally, shiftCircuit_tally]

theorem smallSigma1Circuit_tally (x : EWord) :
    (smallSigma1Circuit p x).tally q = 10 * (q (.triv false)).toNat + 64 * (q .xor).toNat := by
  simp [smallSigma1Circuit, xor3Circuit_tally, shiftCircuit_tally]

/-! ### The ripple adder (R132) -/

/-- R132: a position after the first counts for two XOR and, where it makes a carry, for a MUX. -/
theorem rippleTo_succ_tally (a b : EWord) (n : Nat) :
    (rippleTo p a b (n + 1)).tally q =
      (rippleTo p a b n).tally q + 2 * (q .xor).toNat + if n + 1 < 31 then muxTally p q else 0 := by
  simp only [rippleTo, feed_tally, request_tally]
  split
  · simp only [feed_tally, muxCircuit_tally, wire_tally]
    omega
  · simp only [wire_tally]
    omega

theorem rippleTo_tally (a b : EWord) {n : Nat} (hn : n < 31) :
    (rippleTo p a b n).tally q = (q .xor).toNat + (q .and).toNat + n * (2 * (q .xor).toNat + muxTally p q) := by
  induction n with
  | zero => simp [rippleTo]
  | succ n ih =>
    rw [rippleTo_succ_tally, ih (Nat.lt_of_succ_lt hn), if_pos hn, Nat.add_one_mul n]
    omega

/-- R132: weight 31 makes no carry, so 31 positions count for two XOR and 30 of them for a MUX. -/
theorem addCircuit_tally {p : Params} (ripple : p.adder = .ripple) (a b : EWord) :
    (addCircuit p a b).tally q = 63 * (q .xor).toNat + (q .and).toNat + 30 * muxTally p q := by
  have sums : (addCircuit p a b).tally q = (rippleTo p a b 31).tally q := by
    simp only [addCircuit, ripple, feed_tally, wire_tally, Nat.add_zero]
  rw [sums, rippleTo_succ_tally, rippleTo_tally q p a b (by decide), if_neg (by decide)]
  omega

end

/-- Settles O23: the ripple adder's count, for each gate and for the interactive gates, with either MUX. -/
theorem rippleAdderRequestCounts : Obligations.RippleAdderRequestCounts := by
  intro p a b ripple
  simp only [countOf_eq_tally, interactiveCount_eq_tally, addCircuit_tally _ ripple]
  refine ⟨?_, fun fused => ?_, fun unfused => ?_⟩
  · cases h : p.muxFused <;> simp [muxTally, h, beq_eq_decide]
  · simp [muxTally, fused, isInteractive, beq_eq_decide]
  · simp [muxTally, unfused, isInteractive, beq_eq_decide]

/-- Settles O25: each operator's count, for the interactive gates and for the fill request. -/
theorem bitwiseOperatorRequestCounts : Obligations.BitwiseOperatorRequestCounts := by
  intro p a b c
  simp only [countOf_eq_tally, interactiveCount_eq_tally, bigSigma0Circuit_tally, bigSigma1Circuit_tally,
    smallSigma0Circuit_tally, smallSigma1Circuit_tally]
  refine ⟨xorCircuit_tally _ p a b, ?_, fun reference => majorityCircuit_tally _ reference a b c, rfl, rfl, rfl, rfl, rfl, rfl⟩
  cases h : p.muxFused <;> simp [muxTally, h, isInteractive]

end Sys2Proof.Machine

/-! # The next event, and requests that fail (R60, R82, R130, R176, R177) -/

namespace Sys2Proof.Machine

/-! ### The next event (R60, R176) -/

/-- Settles O7: each format's decoder, and the controller's turn. -/
theorem stepRunsTheDecodedInstruction : Obligations.StepRunsTheDecodedInstruction :=
  ⟨fun _ _ _ _ _ event decodes => step_command event decodes, fun _ _ _ _ _ event decodes => step_wordOp event decodes,
    fun _ _ _ _ _ event decodes => step_gateRequest event decodes, step_microStep, step_idle_turn⟩

/-- Settles O41: the controller's turn outside BUSY leaves the state, its event taken or none there. -/
theorem engineWaitsOutsideABlock : Obligations.EngineWaitsOutsideABlock := fun s mode =>
  ⟨fun none_left => (step_idle_turn s none_left).trans (microStep_idle s mode),
    fun es turn => (step_microStep s es turn).trans (microStep_idle { s with pending := es } mode)⟩

/-! ### Requests (R82, R100, R130) -/

/-- Settles O10: a request on any slots has some value, which a successful draw answers. -/
theorem gateRequestAlwaysReturns : Obligations.GateRequestAlwaysReturns := fun s g success =>
  ⟨_, (exec_toInstr g s).trans (finishGate_success _ s success)⟩

/-- R232, R233: with a block in flight a failed request ends it, in its kind's mode and code. -/
theorem failRequest_endsBlock (s : State) (k : FailKind) (mode : s.ST = .busy) : ∃ p t n,
    s.failRequest k = { s with
      V := none, W := Vector.replicate 64 none,
      ST := if k = .keyMismatch then .halted else .idle,
      ERR := if k = .keyMismatch then .keyMismatch else .evaluationFailure,
      PHASE := p, T := t, unspec := n } := by
  rw [failRequest_busy s k mode]
  cases k <;> exact ⟨_, _, _, rfl⟩

/-- Settles O14: the failure is the request's result, and ends a block if there is one. -/
theorem everyGateRequestCanFail : Obligations.EveryGateRequestCanFail := by
  intro s g k draw
  rw [exec_toInstr, finishGate_fail _ s k draw]
  refine ⟨fun mode => ?_, fun mode => ?_⟩
  · exact congrArg _ (failRequest_not_busy _ k mode)
  · obtain ⟨p, t, n, ends⟩ := failRequest_endsBlock { s with draws := s.draws.tail, gateResult := some (.fail k) } k mode
    exact ⟨p, t, n, congrArg _ ends⟩

/-- R130, R136: every word operator makes a request but ROTR and SHR by 0. -/
theorem wordCircuit_makesRequest {i : Instr} (p : Params) (o : Operands)
    (requesting : i ∈ [Instr.add32, .addk32, .xor32, .ch32, .maj32, .bsig0, .bsig1, .ssig0, .ssig1, .triv32] ∨
      ∃ n, i = .shr n ∧ n ≠ 0) :
    ∃ x, wordCircuit i p o = some x ∧ makesRequest x = true := by
  obtain listed | ⟨n, rfl, nonzero⟩ := requesting
  · cases i
    case add32 => exact ⟨_, rfl, addCircuit_makesRequest p _ _⟩
    case addk32 => exact ⟨_, rfl, constAddCircuit_makesRequest p _ _⟩
    case xor32 => exact ⟨_, rfl, xorCircuit_makesRequest p _ _⟩
    case ch32 => exact ⟨_, rfl, chooseCircuit_makesRequest p _ _ _⟩
    case maj32 => exact ⟨_, rfl, majorityCircuit_makesRequest p _ _ _⟩
    case bsig0 => exact ⟨_, rfl, bigSigma0Circuit_makesRequest p _⟩
    case bsig1 => exact ⟨_, rfl, bigSigma1Circuit_makesRequest p _⟩
    case ssig0 => exact ⟨_, rfl, smallSigma0Circuit_makesRequest p _⟩
    case ssig1 => exact ⟨_, rfl, smallSigma1Circuit_makesRequest p _⟩
    case triv32 => exact ⟨_, rfl, trivialCircuit_makesRequest p _⟩
    all_goals simp at listed
  · have amount : n.toNat ≠ 0 := fun h => nonzero (BitVec.eq_of_toNat_eq h)
    exact ⟨_, rfl, (shiftCircuit_makesRequest p o.s1 n.isLt.le).trans (decide_eq_true amount)⟩

/-- Settles O21: the failed request leaves D without a word, and ends a block if there is one. -/
theorem failedWordOperatorYieldsNoResult : Obligations.FailedWordOperatorYieldsNoResult := by
  intro s k i draw requesting
  obtain ⟨x, circuit, requests⟩ := wordCircuit_makesRequest s.params s.operands requesting
  rw [exec_wordCircuit circuit, finishWord_fail x s k requests draw]
  refine ⟨fun mode => ?_, fun mode => ?_⟩
  · exact congrArg _ (failRequest_not_busy _ k mode)
  · obtain ⟨p, t, n, ends⟩ := failRequest_endsBlock { s with draws := s.draws.tail, D := none } k mode
    exact ⟨p, t, n, congrArg _ ends⟩

end Sys2Proof.Machine

/-! # INIT, READ and a round (R173, R201, R204) -/

namespace Sys2Proof.Machine

/-- R201, R139: the chaining value INIT writes is the IV's words. -/
theorem initialChain_eq_ivRom (p : Params) : initialChain p = ivRom := by
  ext1 j hj
  simp [initialChain, trivialCircuit_out]

theorem initRequests_length (p : Params) : (initRequests p).length = 256 := by
  simp [initRequests, trivialCircuit_reqs]

/-- R201: INIT makes TRIV requests only. -/
theorem initRequests_triv {p : Params} {r : Request} (member : r ∈ initRequests p) :
    r.gate = .triv false ∨ r.gate = .triv true := by
  obtain ⟨j, -, request⟩ := List.mem_flatMap.mp member
  rw [trivialCircuit_reqs] at request
  obtain ⟨i, -, rfl⟩ := List.mem_map.mp request
  cases (ivRom.toList.getD j 0).getLsbD (31 - i) <;> simp

/-- R201: INIT with a successful draw. -/
theorem exec_init_success {s : State} (draw : s.nextDraw = .success) :
    exec .init s = .next ((s.dropDraw.initDone ivRom).respond .none .empty) := by
  rw [exec, execInit, draw, initialChain_eq_ivRom]

/-- R201: INIT with a failing draw. -/
theorem exec_init_fail {s : State} {k : FailKind} (draw : s.nextDraw = .fail k) :
    exec .init s = .next ((s.dropDraw.initFailed k).respond k.code .empty) := by
  rw [exec, execInit, draw]

/-- Settles O29: the state INIT leaves on either answer, and its requests, 32 for each word of the IV. -/
theorem initIsResetAsACommand : Obligations.InitIsResetAsACommand :=
  ⟨fun _ draw => ⟨_, _, _, exec_init_success draw⟩, fun _ _ draw => ⟨_, _, _, exec_init_fail draw⟩,
    fun p => ⟨initRequests_length p, fun _ => initRequests_triv⟩⟩

/-- R204: READ of a chaining register in IDLE. -/
theorem exec_read_idle {s : State} {i : BitVec 4} {h : Vector EWord 8} (hi : i.toNat < 8) (mode : s.ST = .idle)
    (chain : s.H = some h) : exec (.read i) s = .next (s.respond .none (.word h[i.toNat])) := by
  rw [exec, execRead, dif_pos hi, inModes_accept _ _ _ (List.mem_singleton.mpr mode), chain, written_some, andThen_next]

/-- Settles O33: the index decides between the answer of `H` and an illegal command. -/
theorem readReturnsAChainingRegister : Obligations.ReadReturnsAChainingRegister :=
  ⟨fun _ _ _ hi mode chain => exec_read_idle hi mode chain, fun _ _ hi => dif_neg (Nat.not_lt.mpr hi)⟩

/-- Settles O38: a round micro-step that succeeds writes the round function of the old working variables and advances. -/
theorem roundStepIsTheRoundFunction : Obligations.RoundStepIsTheRoundFunction := by
  intro s es a b c d e f g h w turn mode phase draw working schedule
  rw [step_microStep s es turn, microStep_round { s with pending := es } mode phase,
    roundStep_next { s with pending := es } _ w working ((readW_fin s s.T).trans schedule),
    finishMicroStep_success { s with pending := es } _ draw]
  have position : nextPosition s.PHASE s.T = (if s.T = 63 then .ff else .round, if s.T = 63 then 63 else s.T + 1) := by
    rw [phase, nextPosition]
    split
    case isTrue last => rw [last]
    case isFalse => rfl
  simp only [State.advance, State.writeV, State.dropDraw, position]
  rfl

end Sys2Proof.Machine

/-! # The requests of the constant adder (R133, R272) -/

namespace Sys2Proof.Machine

/-- R133: the gate that makes a carry, by the public bit of its weight. -/
def carryGate (kb : Bool) : Gate := if kb then .or else .and

theorem countP_concat {α : Type} (f : α → Bool) (l : List α) (a : α) : (l ++ [a]).countP f = l.countP f + (f a).toNat := by
  cases h : f a <;> simp [h]

/-- What a list of weights counts for where each weight's bit decides. -/
theorem countP_bits (f : Bool → Bool) (k : Word32) (weights : List Nat) :
    weights.countP (fun i => f (k.getLsbD i)) =
      weights.countP (k.getLsbD ·) * (f true).toNat + weights.countP (!k.getLsbD ·) * (f false).toNat := by
  induction weights with
  | nil => simp
  | cons i weights ih =>
    simp only [List.countP_cons, ih, Nat.add_mul]
    cases k.getLsbD i <;> cases f true <;> cases f false <;> simp <;> omega

section
variable (q : Gate → Bool) (p : Params) (x : EWord) (k : Word32)

/-- R133: the first position's XORK, and the TRIV that stands for its carry where the constant is even. -/
theorem constAddTo_zero_tally :
    (constAddTo p x k 0).tally q =
      (q (.xork (k.getLsbD 0))).toNat + if k.getLsbD 0 then 0 else (q (.triv false)).toNat := by
  cases h : k.getLsbD 0 <;> simp only [constAddTo, h, feed_tally, request_tally, wire_tally] <;> rfl

/-- R133: a position after the first counts for an XOR, an XORK and, where it makes a carry, the carry's gate. -/
theorem constAddTo_succ_tally (n : Nat) :
    (constAddTo p x k (n + 1)).tally q =
      (constAddTo p x k n).tally q + (q .xor).toNat + (q (.xork (k.getLsbD (n + 1)))).toNat +
        if n + 1 < 31 then (q (carryGate (k.getLsbD (n + 1)))).toNat else 0 := by
  simp only [constAddTo, feed_tally, request_tally, carryGate]
  split <;> simp only [feed_tally, request_tally, wire_tally] <;> omega

theorem constAddTo_tally {n : Nat} (hn : n < 31) :
    (constAddTo p x k n).tally q =
      n * (q .xor).toNat + (List.range (n + 1)).countP (fun i => q (.xork (k.getLsbD i))) +
        (List.range' 1 n).countP (fun i => q (carryGate (k.getLsbD i))) +
        if k.getLsbD 0 then 0 else (q (.triv false)).toNat := by
  induction n with
  | zero =>
    rw [constAddTo_zero_tally, List.range_succ, countP_concat]
    simp
  | succ n ih =>
    rw [constAddTo_succ_tally, ih (Nat.lt_of_succ_lt hn), if_pos hn, List.range_succ (n := n + 1), countP_concat,
      List.range'_1_concat, countP_concat, Nat.add_one_mul, Nat.add_comm 1 n]
    omega

/-- R133: 31 XOR, an XORK at each of the 32 weights, an OR or an AND at the weights 1 to 30, and a TRIV if the constant
is even. -/
theorem constAddCircuit_tally :
    (constAddCircuit p x k).tally q =
      31 * (q .xor).toNat +
        ((List.range 32).countP (k.getLsbD ·) * (q (.xork true)).toNat +
          (List.range 32).countP (!k.getLsbD ·) * (q (.xork false)).toNat) +
        ((List.range' 1 30).countP (k.getLsbD ·) * (q .or).toNat +
          (List.range' 1 30).countP (!k.getLsbD ·) * (q .and).toNat) +
        if k.getLsbD 0 then 0 else (q (.triv false)).toNat := by
  have sums : (constAddCircuit p x k).tally q = (constAddTo p x k (30 + 1)).tally q := by
    simp only [constAddCircuit, feed_tally, wire_tally, Nat.add_zero]
  have xorks := countP_bits (fun kb => q (.xork kb)) k (List.range 32)
  have carries := countP_bits (fun kb => q (carryGate kb)) k (List.range' 1 30)
  have weights : List.range 32 = List.range (30 + 1) ++ [30 + 1] := List.range_succ
  simp only [carryGate, if_true, Bool.false_eq_true, if_false] at carries
  rw [← xorks, ← carries, weights, countP_concat, sums, constAddTo_succ_tally, constAddTo_tally q p x k (by decide),
    if_neg (by decide : ¬30 + 1 < 31)]
  simp only [carryGate]
  omega

end

/-- Settles O24: each gate's count and the interactive gates'; at every weight the constant's bit is 1 or 0. -/
theorem constantAdderRequestCounts : Obligations.ConstantAdderRequestCounts := by
  intro p x k
  have all_weights := List.length_eq_countP_add_countP (k.getLsbD ·) (l := List.range 32)
  have carry_weights := List.length_eq_countP_add_countP (k.getLsbD ·) (l := List.range' 1 30)
  simp only [Bool.not_eq_true, Bool.decide_eq_false, List.length_range, List.length_range'] at all_weights carry_weights
  simp only [countOf_eq_tally, interactiveCount_eq_tally, constAddCircuit_tally]
  simp only [beq_eq_decide, isInteractive, reduceCtorEq, Gate.xork.injEq, Gate.triv.injEq, decide_false, decide_true,
    Bool.toNat_false, Bool.toNat_true, Bool.true_eq_false, Bool.false_eq_true, Nat.mul_zero, Nat.mul_one, Nat.add_zero,
    Nat.zero_add, ite_self, true_and]
  omega

end Sys2Proof.Machine

/-! # HASH on the host (R94, R178, R179, R211) -/

namespace Sys2Proof.Machine

/-! ### One event at a time -/

theorem offer_done {e : Event} {s t : State} (ran : step { s with pending := e :: s.pending } = .next t) :
    offer e s = .done t := by
  rw [offer, ran]

/-- R211: a command that decodes and is answered with code 0. -/
theorem issue_done {op idx : BitVec 4} {data : List EBit} {s t : State} {p : Payload} {i : Instr}
    (code : encode i = cmdWord op idx) (wf : i.wellFormed = true) (ran : exec i { s with data := data } = .next t)
    (response : t.response = some ⟨.none, p⟩) : issue op idx data s = .done (t, p) := by
  have decodes : decodeCmd32 (cmdBits op idx) = .ok i :=
    (congrArg decode code.symm).trans (decodeOfEncodeIsTheInstruction i wf)
  rw [issue, offer_done ((step_command rfl decodes).trans ran), afterHost, response]
  rfl

/-- `s` between two commands of HASH: no block in flight, the chaining value `h`, and no failure to come. -/
structure ReadyWith (h : Vector EWord 8) (s : State) : Prop where
  mode : s.ST = .idle
  chain : s.H = some h
  success : ∀ d ∈ s.draws, d = Draw.success

theorem nextDraw_of_success {s : State} (success : ∀ d ∈ s.draws, d = Draw.success) : s.nextDraw = .success := by
  cases hd : s.draws with
  | nil => exact nextDraw_nil s hd
  | cons d ds => exact (nextDraw_cons s d ds hd).trans (success d (by simp [hd]))

theorem dropDraw_success {s : State} (success : ∀ d ∈ s.draws, d = Draw.success) :
    ∀ d ∈ s.dropDraw.draws, d = Draw.success :=
  fun d member => success d (List.mem_of_mem_tail member)

/-- R201: INIT readies the engine, on the IV. -/
theorem issue_init {s : State} (success : ∀ d ∈ s.draws, d = Draw.success) :
    ∃ t, issue 0x1 0 [] s = .done (t, .empty) ∧ ReadyWith ivRom t :=
  ⟨_, issue_done (i := .init) rfl rfl (exec_init_success (nextDraw_of_success (s := { s with data := [] }) success)) rfl,
    rfl, rfl, dropDraw_success success⟩

/-! ### LOADBLK (R94) -/

/-- R25, R202: the words of `m` below `j` are loaded. -/
def LoadedTo (m : Vector EWord 16) (j : Nat) (s : State) : Prop :=
  ∀ i : Fin 16, i.val < j → s.M[i] = some m[i] ∧ s.LDMASK.getLsbD i.val = true

/-- R52: a word is its 32 bits. -/
theorem bitsOfWord_injective : Function.Injective bitsOfWord := by
  intro w v same
  refine BitVec.eq_of_getMsbD_eq fun i hi => ?_
  have bit := congrArg (·[i]?) same
  simpa [bitsOfWord, bitAt, hi] using bit

theorem bitsOfWord_length (w : EWord) : (bitsOfWord w).length = 32 := by simp [bitsOfWord]

/-- R202: the next word of `m` in its place, and its mask bit. -/
theorem LoadedTo.next {m : Vector EWord 16} {j : Nat} {s : State} (hj : j < 16) (loaded : LoadedTo m j s) :
    LoadedTo m (j + 1) (s.loadWord (BitVec.ofNat 4 j) m[j]) := by
  intro i hi
  have index : (BitVec.ofNat 4 j).toNat = j := Nat.mod_eq_of_lt hj
  simp only [State.loadWord_M, State.loadWord_LDMASK, index, BitVec.getLsbD_or, Fin.getElem_fin]
  obtain below | here := Nat.lt_succ_iff_lt_or_eq.mp hi
  · obtain ⟨word, mask⟩ := loaded i below
    exact ⟨(Vector.getElem_set_ne _ _ below.ne').trans word, by rw [mask, Bool.true_or]⟩
  · subst here
    exact ⟨Vector.getElem_set_self _, by simp⟩

/-- R202: LOAD of the next word of `m`. -/
theorem issue_load {h : Vector EWord 8} {m : Vector EWord 16} {j : Nat} {s : State} (hj : j < 16) (ready : ReadyWith h s)
    (loaded : LoadedTo m j s) :
    ∃ t, issue 0x2 (BitVec.ofNat 4 j) (bitsOfWord m[j]) s = .done (t, .empty) ∧ ReadyWith h t ∧ LoadedTo m (j + 1) t := by
  obtain ⟨w, ran, bits⟩ := loadWritesOneWordOfTheBuffer { s with data := bitsOfWord m[j] } (BitVec.ofNat 4 j) ready.mode
    (bitsOfWord_length _)
  obtain rfl := bitsOfWord_injective bits
  exact ⟨_, issue_done rfl rfl ran rfl, ⟨ready.mode, ready.chain, ready.success⟩, loaded.next hj⟩

/-- R94: LOADBLK from word `j` on, `n` words. -/
theorem loadBlockFrom_done {h : Vector EWord 8} {m : Vector EWord 16} {n j : Nat} {s : State} (rest : j + n = 16)
    (ready : ReadyWith h s) (loaded : LoadedTo m j s) :
    ∃ t, loadBlockFrom s j ((m.toList.drop j).map bitsOfWord) = .done t ∧ ReadyWith h t ∧ LoadedTo m 16 t := by
  induction n generalizing j s with
  | zero =>
    obtain rfl : j = 16 := rest
    exact ⟨s, by rw [List.drop_eq_nil_of_le (by simp)]; rfl, ready, loaded⟩
  | succ n ih =>
    have inside : j < m.toList.length := by rw [Vector.length_toList]; omega
    obtain ⟨u, issued, ready, loaded⟩ := issue_load (by omega) ready loaded
    obtain ⟨t, later, done⟩ := ih (by omega) ready loaded
    refine ⟨t, ?_, done⟩
    rw [List.drop_eq_getElem_cons inside, List.map_cons, loadBlockFrom, Vector.getElem_toList, issued, afterHost, later]

/-- R31: a block that is loaded whole fills LDMASK. -/
theorem LoadedTo.full {m : Vector EWord 16} {s : State} (loaded : LoadedTo m 16 s) : s.LDMASK = 0xFFFF := by
  refine BitVec.eq_of_getLsbD_eq fun i hi => ?_
  rw [(loaded ⟨i, hi⟩ hi).2]
  interval_cases i <;> rfl

/-! ### WAIT (R94) -/

/-- `s` after a poll that the STATUS word `w` answered (R205). -/
def State.polled (s : State) (w : Word32) : State := { s with data := [], response := some ⟨.none, .status w⟩ }

/-- R94: a poll in BUSY lets the engine take a micro-step, and WAIT goes on. -/
theorem waitBlock_busy {s t : State} (fuel : Nat) (mode : s.ST = .busy) (ran : microStep (s.polled (statusWord s)) = .next t) :
    waitBlock (fuel + 1) s = waitBlock fuel t := by
  have turn : offer .microStep (s.polled (statusWord s)) = .done t := offer_done ((step_microStep _ _ rfl).trans ran)
  unfold State.polled at turn
  rw [waitBlock, issue_status]
  simp only [afterHost, if_pos ((statusWord_state_eq_busy s).mpr mode), turn]

/-- R29: the STATUS word names ERR's code. -/
theorem errField_statusWord (s : State) : errField (statusWord s) = s.ERR := by
  obtain ⟨-, -, err, -⟩ := statusFields_slices s.LDMASK 0#7 (fullFlag s) s.ERR.number 0#2 s.ST.number
  rw [errField, statusWord_eq_fields, err]
  cases s.ERR <;> rfl

section
variable {s : State} {h : Vector EWord 8} (m : Vector EWord 16) {n : Nat} (fuel : Nat)

/-- R94, R176: a poll of a block before its feed-forward, and the micro-step after it. -/
theorem waitBlock_inBlock_next (draw : s.nextDraw = .success) (hn : n < 112) :
    ∃ w, waitBlock (fuel + 1) (s.inBlock h m n) = waitBlock fuel ((s.polled w).dropDraw.inBlock h m (n + 1)) :=
  ⟨_, waitBlock_busy fuel rfl (microStep_inBlock (s := s.polled (statusWord (s.inBlock h m n))) h m draw hn)⟩

/-- R94, R175: a poll before the feed-forward, and the commit after it. -/
theorem waitBlock_inBlock_commits (chain : s.H = some h) (draw : s.nextDraw = .success) :
    ∃ w, waitBlock (fuel + 1) (s.inBlock h m 112) = waitBlock fuel ((s.polled w).dropDraw.commitBlock (compress h m)) :=
  ⟨_, waitBlock_busy fuel rfl (microStep_inBlock_commits (s := s.polled (statusWord (s.inBlock h m 112))) m chain draw)⟩

end

/-- R94, R181: from the `n`-th state of a block, with `k` micro-steps left before the feed-forward, WAIT ends with the
compression function committed. -/
theorem waitBlock_inBlock {h : Vector EWord 8} (m : Vector EWord 16) {k n : Nat} (fuel : Nat) {s : State} (chain : s.H = some h)
    (success : ∀ d ∈ s.draws, d = Draw.success) (left : n + k = 112) :
    ∃ r, waitBlock (k + fuel + 2) (s.inBlock h m n) = .done r ∧ ReadyWith (compress h m) r.1 ∧ errField r.2 = .none := by
  induction k generalizing n s with
  | zero =>
    obtain rfl : n = 112 := left
    obtain ⟨w, commits⟩ := waitBlock_inBlock_commits m (0 + fuel + 1) chain (nextDraw_of_success success)
    have idle : ((s.polled w).dropDraw.commitBlock (compress h m)).ST ≠ .busy := by
      rw [State.commitBlock_ST]
      decide
    rw [commits, waitEndsOutsideBusy _ _ idle]
    exact ⟨_, rfl, ⟨rfl, rfl, dropDraw_success success⟩, errField_statusWord _⟩
  | succ k ih =>
    obtain ⟨w, next⟩ := waitBlock_inBlock_next (h := h) m (k + fuel + 2) (nextDraw_of_success success) (n := n) (by omega)
    rw [Nat.add_right_comm k 1 fuel, Nat.add_right_comm _ 1 2, next]
    exact ih (s := (s.polled w).dropDraw) chain (dropDraw_success success) (by omega)

/-! ### HASH (R211) -/

/-- R178: one block of HASH. -/
theorem hashBlock_done {h : Vector EWord 8} {fuel : Nat} {s : State} (m : Vector EWord 16) (polls : 114 ≤ fuel)
    (ready : ReadyWith h s) : ∃ t, hashBlock fuel s (m.toList.map bitsOfWord) = .done t ∧ ReadyWith (compress h m) t := by
  obtain ⟨u, loads, ready, loaded⟩ := loadBlockFrom_done (m := m) (n := 16) (Nat.zero_add 16) ready fun _ => nofun
  have absorbs := execAbsorb_inBlock (s := { u with data := [] }) ready.mode loaded.full ready.chain
    fun i => (loaded i i.isLt).1
  obtain ⟨fuel, rfl⟩ : ∃ spare, fuel = 112 + spare + 2 := ⟨fuel - 114, by omega⟩
  obtain ⟨r, waits, done, err⟩ := waitBlock_inBlock m fuel (s := ({ u with data := [] } : State).respond .none .empty)
    ready.chain ready.success (k := 112) (n := 0) rfl
  rw [List.drop_zero] at loads
  refine ⟨r.1, ?_, done⟩
  rw [hashBlock, loads, afterHost, issue_done (i := .absorb) rfl rfl absorbs rfl, afterHost, waits, afterHost, if_pos err]

theorem hashBlocks_done {fuel : Nat} (polls : 114 ≤ fuel) (blocks : List (Vector EWord 16)) {h : Vector EWord 8}
    {s : State} (ready : ReadyWith h s) :
    ∃ t, hashBlocks fuel s (blocks.map fun b => b.toList.map bitsOfWord) = .done t ∧
      ReadyWith (blocks.foldl compress h) t := by
  induction blocks generalizing h s with
  | nil => exact ⟨s, rfl, ready⟩
  | cons b blocks ih =>
    obtain ⟨u, first, ready⟩ := hashBlock_done b polls ready
    obtain ⟨t, rest, done⟩ := ih ready
    exact ⟨t, by rw [List.map_cons, hashBlocks, first, afterHost, rest], done⟩

/-- R204: READ of one chaining register. -/
theorem issue_read {h : Vector EWord 8} {j : Nat} {s : State} (hj : j < 8) (ready : ReadyWith h s) :
    ∃ t, issue 0x4 (BitVec.ofNat 4 j) [] s = .done (t, .word h[j]) ∧ ReadyWith h t := by
  have index : (BitVec.ofNat 4 j).toNat = j := Nat.mod_eq_of_lt (by omega)
  have low : (BitVec.ofNat 4 j).toNat < 8 := by omega
  have ran := exec_read_idle (s := { s with data := [] }) low ready.mode ready.chain
  simp only [index] at ran
  exact ⟨_, issue_done (i := .read _) rfl (decide_eq_true low) ran rfl, ready.mode, ready.chain, ready.success⟩

/-- R94, R179: the last `n` words of the digest. -/
theorem readDigest_done {h : Vector EWord 8} {n : Nat} {s : State} (hn : n ≤ 8) (ready : ReadyWith h s) :
    readDigest s n = .done (h.toList.drop (8 - n)) := by
  induction n generalizing s with
  | zero => simp [readDigest]
  | succ n ih =>
    have inside : 7 - n < h.toList.length := by rw [Vector.length_toList]; omega
    have first : 8 - (n + 1) = 7 - n := by omega
    have later : 8 - n = 7 - n + 1 := by omega
    obtain ⟨t, read, ready⟩ := issue_read (j := 7 - n) (by omega) ready
    rw [first, List.drop_eq_getElem_cons inside, readDigest, read, Vector.getElem_toList]
    simp only [afterHost, ih (by omega) ready, later]

theorem wellFormedBlock_bitsOfWord (m : Vector EWord 16) : wellFormedBlock (m.toList.map bitsOfWord) = true := by
  rw [wellFormedBlock_iff]
  simp [bitsOfWord_length]

/-- Settles O55: INIT readies the engine on the IV, each block leaves it ready on the next chaining value, and the READs
answer the last one's words. -/
theorem hostMacroChainsTheBlocks : Obligations.HostMacroChainsTheBlocks := by
  intro s blocks fuel polls _ success
  have wellFormed : (blocks.map fun b => b.toList.map bitsOfWord).all wellFormedBlock = true := by
    simp [wellFormedBlock_bitsOfWord]
  obtain ⟨u, init, ready⟩ := issue_init success
  obtain ⟨t, hashed, ready⟩ := hashBlocks_done polls blocks ready
  rw [sha256Tfhe, if_pos wellFormed, init, afterHost, hashed, afterHost, readDigest_done le_rfl ready, Nat.sub_self,
    List.drop_zero]

end Sys2Proof.Machine
